-- ==== Sys2Proof/Word.lean ====
section
/-! DEFINITION. The two word sizes of the block: a Character (and a wire byte) of 8 bits, and the 24-bit words of
`spec/30_encoding.md` R47 (SegmentMask, raw GridSelector mask, Frame). -/

namespace Sys2Proof

/-- A Character, a wire byte or a segment byte: CHAR_W = 8 bits (R48). -/
abbrev Byte := BitVec 8

/-- A SegmentMask, a raw GridSelector mask or a Frame: FRAME_W = 24 bits (R47). -/
abbrev Word24 := BitVec 24

end Sys2Proof
end

