-- ==== Sys2Proof/Config.lean ====
section
/-! DEFINITION. The parameters of the block: those the document fixes (`spec/00_scope.md` R6) as constants, those it leaves
open (R7) as the fields of one configuration record, and the two values it leaves unspecified (`spec/10_state.md` R26) as
constants without a body. -/

namespace Sys2Proof

/-- BUF_LEN: the number of cells of the DisplayBuffer (R6). -/
def bufLen : Nat := 10

/-- TICK_HZ: the nominal rate of the external tick; no rule reads it (R6, R165). -/
def tickHz : Nat := 500

/-- SCLK_HZ: the reference rate of the external serial clock; no rule reads it (R6, R166). -/
def sclkHz : Nat := 800000

/-- The recognised characters of R49. The six letters appear in both cases. The text counts 22 of them, its list and its
table hold these 26 (log 11, DEDUCED). -/
inductive Chr where
  | digit (d : Fin 10)   -- '0' .. '9'
  | upper (h : Fin 6)    -- 'A' .. 'F'
  | lower (h : Fin 6)    -- 'a' .. 'f'
  | point                -- '.'
  | star                 -- '*', the degree character
  | minus                -- '-'
  | space                -- ' '
deriving DecidableEq, Repr

/-- A set of the segments A..G: bit 0 is A, bit 6 is G (R50). -/
abbrev SegSet := BitVec 7

/-- BIT_ORDER: the order of the bits of one byte on the wire (R35). -/
inductive BitOrder where
  | msbFirst
  | lsbFirst
deriving DecidableEq, Repr

/-- SKIP_POLICY: what a tick at cursor 0 sends when cell 0 holds no sign character (R103, D7). -/
inductive SkipPolicy where
  | blankSign
  | noFrame
deriving DecidableEq, Repr

/-- CHAR_W: the width of a Character. R7 gives it one legal value. -/
inductive CharWidth where
  | eight
deriving DecidableEq, Repr

/-- CHAR_W as a number of bits; `Byte`, the type of a Character, has this width. -/
def CharWidth.bits : CharWidth → Nat
  | .eight => 8

/-- TX_SLOTS: how many frames the transport holds (D9). R7 gives it one legal value. -/
inductive TxSlots where
  | one
deriving DecidableEq, Repr

/-- TX_SLOTS as a number of frames: one in flight, none waiting. -/
def TxSlots.frames : TxSlots → Nat
  | .one => 1

/-- The configuration record of R7, a field for each of its ten parameters. It is fixed for the life of the machine (R16). -/
structure Config where
  /-- CHAR_W. -/
  charW : CharWidth
  /-- CHAR_CODE: the codes of the recognised characters, in the order '0'..'9', 'A'..'F', 'a'..'f', '.', '*', '-', ' '. -/
  charCode : Vector Byte 26
  /-- GLYPH: the segments of the 16 hex glyphs. -/
  glyph : Vector SegSet 16
  /-- SEG_BIT: the places of A..G in the segment byte; place p is frame bit 8 + p. DOT is fixed at frame bit 15. -/
  segBit : Vector (Fin 7) 7
  /-- GRID_BIT: the places of grid 0..7 in the grid byte; place p is frame bit 16 + p. -/
  gridBit : Vector (Fin 8) 8
  /-- SIGN_BIT: the frame bit of the sign selector, outside 8..23. -/
  signBit : Fin 8
  /-- BIT_ORDER. -/
  bitOrder : BitOrder
  /-- SKIP_POLICY. -/
  skipPolicy : SkipPolicy
  /-- RESET_CHAR: the content of every cell after reset. -/
  resetChar : Byte
  /-- TX_SLOTS. -/
  txSlots : TxSlots
deriving DecidableEq, Repr

/-- The legal values of R7 that the types do not say: distinct character codes, the two glyphs the document gives, injective bit maps. -/
abbrev Config.Legal (cfg : Config) : Prop :=
  cfg.charCode.toList.Nodup ∧ cfg.glyph[0] = 0b0111111#7 ∧ cfg.glyph[1] = 0b0000110#7 ∧
    cfg.segBit.toList.Nodup ∧ cfg.gridBit.toList.Nodup

/-- The unspecified content of `txf` after the n-th RESET (R26, U13; log 5): a free value, nothing is known of it. -/
opaque Config.txfAfterReset : Nat → Word24

/-- The unspecified content of the driver chip's latches after the n-th RESET (R26, U12; log 5): a free value, nothing is
known of it. -/
opaque Config.latchAfterReset : Nat → Word24

end Sys2Proof
end

