-- ==== Sys2Proof/Machine/Defaults.lean ====
section
/-! DEFINITION. The default configuration: the values `spec/92_eei_decisions.md` D1 to D8 decide for the open parameters of
`spec/00_scope.md` R7. -/

namespace Sys2Proof.Machine

/-- CHAR_CODE: ASCII (R49, D1). -/
def asciiCodes : Vector Byte 26 :=
  #v[0x30#8, 0x31#8, 0x32#8, 0x33#8, 0x34#8, 0x35#8, 0x36#8, 0x37#8, 0x38#8, 0x39#8,
     0x41#8, 0x42#8, 0x43#8, 0x44#8, 0x45#8, 0x46#8,
     0x61#8, 0x62#8, 0x63#8, 0x64#8, 0x65#8, 0x66#8,
     0x2E#8, 0x2A#8, 0x2D#8, 0x20#8]

/-- GLYPH: the segments of '0'..'9' and 'A'..'F', written GFEDCBA (R70 to R85, D2). -/
def glyphTable : Vector SegSet 16 :=
  #v[0b0111111#7,  -- 0: A B C D E F
     0b0000110#7,  -- 1: B C
     0b1011011#7,  -- 2: A B D E G
     0b1001111#7,  -- 3: A B C D G
     0b1100110#7,  -- 4: B C F G
     0b1101101#7,  -- 5: A C D F G
     0b1111101#7,  -- 6: A C D E F G
     0b0000111#7,  -- 7: A B C
     0b1111111#7,  -- 8: A B C D E F G
     0b1101111#7,  -- 9: A B C D F G
     0b1110111#7,  -- A: A B C E F G
     0b1111100#7,  -- B: C D E F G
     0b0111001#7,  -- C: A D E F
     0b1011110#7,  -- D: B C D E G
     0b1111001#7,  -- E: A D E F G
     0b1110001#7]  -- F: A E F G

/-- The configuration record with every field at its default (R7). SKIP_POLICY is open; `blankSign` is the recommended default
(D7). -/
def defaultConfig : Config where
  charW      := .eight
  charCode   := asciiCodes
  glyph      := glyphTable
  segBit     := #v[0, 1, 2, 3, 4, 5, 6]
  gridBit    := #v[0, 1, 2, 3, 4, 5, 6, 7]
  signBit    := 7
  bitOrder   := .msbFirst
  skipPolicy := .blankSign
  resetChar  := 0x20#8
  txSlots    := .one

end Sys2Proof.Machine
end

