-- ==== Sys2Proof/Syntax.lean ====
section
/-! DEFINITION. The syntax of the block's operations: one constructor of `Instr` per row of `spec/opcode_table.json`
(`spec/30_encoding.md` R58), the digit positions as a tagged enumeration (R53, R94), and the words an operation is asked for
with. -/

namespace Sys2Proof

/-- A GridSelector: grid 0 .. grid 7, or the sign position (R53). -/
inductive GridSel where
  | grid (k : Fin 8)
  | sign
deriving DecidableEq, Repr

/-- The operations of the block. A raw mask or a SegmentMask that the spec forbids cannot be written: the selectors are the
enumeration `GridSel` and the segments are a segment byte (R94, U11). -/
inductive Instr where
  /-- ENC '0' (R70). -/
  | encDigit0
  /-- ENC '1' (R71). -/
  | encDigit1
  /-- ENC '2' (R72). -/
  | encDigit2
  /-- ENC '3' (R73). -/
  | encDigit3
  /-- ENC '4' (R74). -/
  | encDigit4
  /-- ENC '5' (R75). -/
  | encDigit5
  /-- ENC '6' (R76). -/
  | encDigit6
  /-- ENC '7' (R77). -/
  | encDigit7
  /-- ENC '8' (R78). -/
  | encDigit8
  /-- ENC '9' (R79). -/
  | encDigit9
  /-- ENC 'A' (R80). -/
  | encUpperA
  /-- ENC 'B' (R81). -/
  | encUpperB
  /-- ENC 'C' (R82). -/
  | encUpperC
  /-- ENC 'D' (R83). -/
  | encUpperD
  /-- ENC 'E' (R84). -/
  | encUpperE
  /-- ENC 'F' (R85). -/
  | encUpperF
  /-- ENC 'a' (R80). -/
  | encLowerA
  /-- ENC 'b' (R81). -/
  | encLowerB
  /-- ENC 'c' (R82). -/
  | encLowerC
  /-- ENC 'd' (R83). -/
  | encLowerD
  /-- ENC 'e' (R84). -/
  | encLowerE
  /-- ENC 'f' (R85). -/
  | encLowerF
  /-- ENC '.' (R86). -/
  | encPoint
  /-- ENC '*' (R87). -/
  | encStar
  /-- ENC '-' (R88). -/
  | encMinus
  /-- ENC ' ' (R89). -/
  | encSpace
  /-- ENC fallback (R90). -/
  | encFallback (c : Byte)
  /-- GRIDSEL grid0 (R96). -/
  | gridselGrid0
  /-- GRIDSEL grid1 (R96). -/
  | gridselGrid1
  /-- GRIDSEL grid2 (R96). -/
  | gridselGrid2
  /-- GRIDSEL grid3 (R96). -/
  | gridselGrid3
  /-- GRIDSEL grid4 (R96). -/
  | gridselGrid4
  /-- GRIDSEL grid5 (R96). -/
  | gridselGrid5
  /-- GRIDSEL grid6 (R96). -/
  | gridselGrid6
  /-- GRIDSEL grid7 (R96). -/
  | gridselGrid7
  /-- GRIDSEL sign (R96). -/
  | gridselSign
  /-- FRAME grid (R93). The segment byte `segs` is pgfedcba. -/
  | frameGrid (k : Fin 8) (segs : Byte)
  /-- FRAME sign (R93). The segment byte `segs` is pgfedcba. -/
  | frameSign (segs : Byte)
  /-- SER (R97). -/
  | ser (f : Word24)
  /-- ENC (R67). -/
  | enc (c : Byte)
  /-- GRIDSEL (R96). -/
  | gridsel (g : GridSel)
  /-- FRAME (R93). The operand s is the SegmentMask of the segment byte `segs`. -/
  | frame (g : GridSel) (segs : Byte)
  /-- SELECT c=1..8 (R101). The cursor value is j + 1, so j is the index into GRID_TABLE (R59(c)). -/
  | selectDigit (j : Fin 8)
  /-- SELECT c=0 sign (R102). -/
  | selectSign
  /-- SELECT c=0 skip (R103). -/
  | selectSkip
  /-- RESET (R156). -/
  | reset
  /-- STOP (R119). -/
  | stop
  /-- START (R118). -/
  | start
  /-- TXDONE (R126). -/
  | txdone
  /-- TICK (R108). -/
  | tick
  /-- WRCH (R116). The index is the 4-bit wr_idx of D10. -/
  | wrch (i : BitVec 4) (v : Byte)
  /-- SETDISP (R117). -/
  | setdisp (text : List Byte)
  /-- SEND (R123). -/
  | sendFrame (f : Word24)
  /-- blank (R124). -/
  | blank
  /-- send (R125). -/
  | send (f : Word24)
  /-- latch (R127). -/
  | latch
  /-- unblank (R128). -/
  | unblank
deriving DecidableEq, Repr

/-- The operations that have no binary selection: they are selected by name (R58; the table's notes). -/
inductive OpName where
  | ser
  | enc
  | gridsel
  | frame
  | selectDigit
  | selectSign
  | selectSkip
  | setdisp
  | sendFrame
  | blank
  | send
  | latch
  | unblank
deriving DecidableEq, Repr

/-- What stands beside an operation's bits and selects how they are read: one of the table's formats with a binary selection,
or the name of an operation that has none (R58; log 9). -/
inductive OpKind where
  | char8
  | gridsel24
  | frame24
  | event6
  | named (n : OpName)
deriving DecidableEq, Repr

/-- An operation as it is asked for: its kind and its bits, as bytes, the byte with bits 7..0 first. An `event6` word is one
port-level sample: the event vector, wr_idx, wr_char, a byte each (D10; log 10). -/
structure OpWord where
  kind  : OpKind
  bytes : List Byte
deriving DecidableEq, Repr

/-- One place in the total order of operations (`spec/20_memory.md` R41): an operation asked for, or the producer's turn to
make the next write of the SETDISP it has under way (R42; log 7). -/
inductive Request where
  | word (w : OpWord)
  | producerTurn
deriving DecidableEq, Repr

end Sys2Proof
end

