-- ==== Sys2Proof/Machine/Operands.lean ====
section
/-! DEFINITION. The combinational part of the block, pure functions of their arguments and the configuration
(`spec/10_state.md` R16): the Character Encoder ENC, the Frame Encoder GRIDSEL, FRAME and SER, the well-formedness of a frame,
the bits on the wire, and the grid table of the digit selector. -/

namespace Sys2Proof.Machine

/-! ### Character codes (R49) -/

/-- Where a recognised character stands in CHAR_CODE. -/
def chrIndex : Chr → Fin 26
  | .digit d => ⟨d.val, by omega⟩
  | .upper h => ⟨10 + h.val, by omega⟩
  | .lower h => ⟨16 + h.val, by omega⟩
  | .point   => 22
  | .star    => 23
  | .minus   => 24
  | .space   => 25

/-- The code CHAR_CODE gives a recognised character. -/
def charCode (cfg : Config) (ch : Chr) : Byte := cfg.charCode[chrIndex ch]

/-- The recognised set (R49). -/
def recognisedSet : List Chr :=
  (List.finRange 10).map .digit ++ (List.finRange 6).map .upper ++ (List.finRange 6).map .lower ++
    [.point, .star, .minus, .space]

/-- The classification of R65, by exact comparison with the codes of the recognised set; `none` outside it. -/
def recognise (cfg : Config) (c : Byte) : Option Chr :=
  recognisedSet.find? fun ch => charCode cfg ch == c

/-! ### The 7-segment character encoder (R64 to R92) -/

/-- The bit of the segment byte that segment i (A = 0 .. G = 6) contributes when it is lit (SEG_BIT, R51). -/
def segmentBit (cfg : Config) (lit : SegSet) (i : Fin 7) : Byte :=
  if lit.getLsbD i.val then 1#8 <<< cfg.segBit[i].val else 0#8

/-- The segment byte of a set of segments A..G (R50, R51). -/
def segmentByte (cfg : Config) (lit : SegSet) : Byte :=
  segmentBit cfg lit 0 ||| segmentBit cfg lit 1 ||| segmentBit cfg lit 2 ||| segmentBit cfg lit 3 |||
    segmentBit cfg lit 4 ||| segmentBit cfg lit 5 ||| segmentBit cfg lit 6

/-- The segment byte of DOT, which is also DEGREE: frame bit 15 (R51, R52). -/
def dotByte : Byte := 0x80#8

/-- The segment set of MINUS: segment G (R52). -/
def minusSegments : SegSet := 0b1000000#7

/-- The segment byte of a recognised character: R70 to R89, with the letters folded (R69). -/
def chrSegmentByte (cfg : Config) : Chr → Byte
  | .digit d => segmentByte cfg (cfg.glyph[d.val]'(by omega))
  | .upper h => segmentByte cfg (cfg.glyph[10 + h.val]'(by omega))
  | .lower h => segmentByte cfg (cfg.glyph[10 + h.val]'(by omega))
  | .point   => dotByte
  | .star    => dotByte
  | .minus   => segmentByte cfg minusSegments
  | .space   => 0x00#8

/-- A segment byte becomes a SegmentMask: `zext_24(b) << 8` (R50, R59(a)). -/
def segmentMaskOf (b : Byte) : Word24 := b.setWidth 24 <<< 8

/-- ENC of a recognised character (R65). -/
def encChr (cfg : Config) (ch : Chr) : Word24 := segmentMaskOf (chrSegmentByte cfg ch)

/-- The fallback mask: that of 'A' (R90). -/
def fallbackMask (cfg : Config) : Word24 := encChr cfg (.upper 0)

/-- ENC(c), total on all 256 codes (R65, R67). -/
def encode7 (cfg : Config) (c : Byte) : Word24 :=
  match recognise cfg c with
  | some ch => encChr cfg ch
  | none    => fallbackMask cfg

/-! ### The frame encoder (R93 to R99) -/

/-- GRIDSEL: the raw mask of a selector, one bit at GRID_BIT or SIGN_BIT (R53, R96). -/
def gridselMask (cfg : Config) : GridSel → Word24
  | .grid k => 1#24 <<< (16 + cfg.gridBit[k].val)
  | .sign   => 1#24 <<< cfg.signBit.val

/-- FRAME(g, s): the bitwise OR of the two masks (R93). -/
def frameOf (g s : Word24) : Word24 := g ||| s

/-- The frame of a selector and a character: FRAME(GRIDSEL(k), ENC(c)) (R108 step 2). -/
def charFrame (cfg : Config) (g : GridSel) (c : Byte) : Word24 := frameOf (gridselMask cfg g) (encode7 cfg c)

/-- GRID_MASK: the eight grid bits and the sign bit (R56). -/
def gridMask (cfg : Config) : Word24 := 0xFF0000#24 ||| gridselMask cfg .sign

/-- SEGMENT_MASK: bits 15..8 (R56). -/
def segmentMask : Word24 := 0x00FF00#24

/-- Exactly one bit of a word is set. -/
def oneBit (x : Word24) : Bool := x != 0#24 && (x &&& (x - 1#24)) == 0#24

/-- A well-formed frame (R98): exactly one selector bit is set, and every bit outside the two masks is zero. -/
def wellFormedFrame (cfg : Config) (f : Word24) : Bool :=
  oneBit (f &&& gridMask cfg) && (f &&& ~~~(gridMask cfg ||| segmentMask)) == 0#24

/-- SER(f): the three bytes of the burst, most significant byte first (R34, R97). -/
def ser (f : Word24) : List Byte :=
  [f.extractLsb' 16 8, f.extractLsb' 8 8, f.extractLsb' 0 8]

/-- The bits of one byte in the order they leave (R35). -/
def wireByte (order : BitOrder) (b : Byte) : List Bool :=
  match order with
  | .msbFirst => (List.range 8).map fun i => b.getLsbD (7 - i)
  | .lsbFirst => (List.range 8).map fun i => b.getLsbD i

/-- The 24 bits of a frame in the order they leave (R34, R35). -/
def wireBits (cfg : Config) (f : Word24) : List Bool := (ser f).flatMap (wireByte cfg.bitOrder)

/-! ### The grid table of the digit selector (R100) -/

/-- GRID_TABLE: entry j is grid 7 - j. -/
def gridTable (j : Fin 8) : GridSel :=
  #v[GridSel.grid 7, .grid 6, .grid 5, .grid 4, .grid 3, .grid 2, .grid 1, .grid 0][j]

end Sys2Proof.Machine
end

