-- ==== Sys2Proof/WellFormed.lean ====
section
/-! DEFINITION. Which instructions are well formed. The types of `Instr` already exclude an index that is no selector, a mask
with no bit or several, and a cursor value outside 1..8; what is left to check is that the fallback row's character is outside
the recognised set (`spec/40_character_encoder.md` R90) and that the operand of SER, SEND and send is a frame
(`spec/41_frame_encoder.md` R97, R98; `spec/44_blanking_synchronizer.md` R123, R125). -/

namespace Sys2Proof

/-- The check on an instruction's operands. -/
def wellFormed (cfg : Config) : Instr → Bool
  | .encFallback c => (Machine.recognise cfg c).isNone
  | .ser f         => Machine.wellFormedFrame cfg f
  | .sendFrame f   => Machine.wellFormedFrame cfg f
  | .send f        => Machine.wellFormedFrame cfg f
  | .encDigit0 => true
  | .encDigit1 => true
  | .encDigit2 => true
  | .encDigit3 => true
  | .encDigit4 => true
  | .encDigit5 => true
  | .encDigit6 => true
  | .encDigit7 => true
  | .encDigit8 => true
  | .encDigit9 => true
  | .encUpperA => true
  | .encUpperB => true
  | .encUpperC => true
  | .encUpperD => true
  | .encUpperE => true
  | .encUpperF => true
  | .encLowerA => true
  | .encLowerB => true
  | .encLowerC => true
  | .encLowerD => true
  | .encLowerE => true
  | .encLowerF => true
  | .encPoint => true
  | .encStar => true
  | .encMinus => true
  | .encSpace => true
  | .gridselGrid0 => true
  | .gridselGrid1 => true
  | .gridselGrid2 => true
  | .gridselGrid3 => true
  | .gridselGrid4 => true
  | .gridselGrid5 => true
  | .gridselGrid6 => true
  | .gridselGrid7 => true
  | .gridselSign => true
  | .frameGrid _ _ => true
  | .frameSign _ => true
  | .enc _ => true
  | .gridsel _ => true
  | .frame _ _ => true
  | .selectDigit _ => true
  | .selectSign => true
  | .selectSkip => true
  | .reset => true
  | .stop => true
  | .start => true
  | .txdone => true
  | .tick => true
  | .wrch _ _ => true
  | .setdisp _ => true
  | .blank => true
  | .latch => true
  | .unblank => true

end Sys2Proof
end

