-- ==== Sys2Proof/Decode.lean ====
section
/-! DEFINITION. From the word an operation is asked for with to the operation, and back (`spec/30_encoding.md` R47 to R63 and
`spec/opcode_table.json`). The decoder is total and rejects by name; the encoder writes the word of a well-formed instruction
from the same encodings. A port-level sample may select several operations: `decode` answers the first in the order of
`spec/60_exceptions.md` R145 and `restOfSample` is the sample that is left. -/

namespace Sys2Proof

/-- Why a word is no operation. -/
inductive Reject where
  /-- the word has too few or too many bytes for its kind: every format has one length (R61) -/
  | wrongLength
  /-- bits beyond ev[5:0] or wr_idx[3:0] are set (D10) -/
  | reservedBits
  /-- no event is selected in this sample (R58) -/
  | noEvent
  /-- a raw mask or frame without exactly one of the nine selectors (R60(b), R94) -/
  | notOneSelector
  /-- a GridSelector index outside 0..8 (R96) -/
  | selectorIndex
  /-- a cursor value outside the row's range (R60(d), R101) -/
  | cursorValue
  /-- a SegmentMask with a bit outside [15:8] (R60(b), R94) -/
  | segmentsOutside
  /-- the operand of SER, SEND or send is no well-formed frame (R98) -/
  | illFormedFrame
deriving DecidableEq, Repr

/-- What the decoder answers. -/
inductive Decoded where
  | instr (i : Instr)
  | rejected (r : Reject)
deriving DecidableEq, Repr

/-! ### Pieces -/

/-- Three bytes, bits 7..0 first, as one 24-bit word. -/
def wordOf (b0 b1 b2 : Byte) : Word24 := b2 ++ b1 ++ b0

/-- A 24-bit word as three bytes, bits 7..0 first. -/
def wordBytes (f : Word24) : List Byte := [f.extractLsb' 0 8, f.extractLsb' 8 8, f.extractLsb' 16 8]

/-- The nine selectors (R53). -/
def allSelectors : List GridSel := (List.finRange 8).map .grid ++ [.sign]

/-- The selector whose raw mask this is, if any (R53). -/
def selectorOfMask (cfg : Config) (m : Word24) : Option GridSel :=
  allSelectors.find? fun g => Machine.gridselMask cfg g == m

/-- The index GRIDSEL takes: k for grid k, 8 for the sign position (R53). -/
def selectorIndex : GridSel → Byte
  | .grid k => BitVec.ofNat 8 k.val
  | .sign   => 8#8

/-- The selector of an index 0..8. -/
def selectorOfIndex (k : Byte) : Option GridSel := allSelectors.find? fun g => selectorIndex g == k

/-- The ENC row of a recognised character. -/
def charRow : Chr → Instr
  | .digit d => #v[Instr.encDigit0, .encDigit1, .encDigit2, .encDigit3, .encDigit4, .encDigit5, .encDigit6, .encDigit7, .encDigit8, .encDigit9][d]
  | .upper h => #v[Instr.encUpperA, .encUpperB, .encUpperC, .encUpperD, .encUpperE, .encUpperF][h]
  | .lower h => #v[Instr.encLowerA, .encLowerB, .encLowerC, .encLowerD, .encLowerE, .encLowerF][h]
  | .point   => .encPoint
  | .star    => .encStar
  | .minus   => .encMinus
  | .space   => .encSpace

/-- The GRIDSEL row of a selector. -/
def selectorRow : GridSel → Instr
  | .grid k => #v[Instr.gridselGrid0, .gridselGrid1, .gridselGrid2, .gridselGrid3, .gridselGrid4, .gridselGrid5, .gridselGrid6, .gridselGrid7][k]
  | .sign   => .gridselSign

/-- The FRAME row of a selector. -/
def frameRow (segs : Byte) : GridSel → Instr
  | .grid k => .frameGrid k segs
  | .sign   => .frameSign segs

/-- An operation whose operand is a frame, if it is one (R98). -/
def withFrame (cfg : Config) (op : Word24 → Instr) (f : Word24) : Decoded :=
  if Machine.wellFormedFrame cfg f then .instr (op f) else .rejected .illFormedFrame

/-! ### The decoder -/

/-- A Character at the encoder's input: the row whose code it has, and the fallback row where no other matches (R65). -/
def decodeChar (cfg : Config) (c : Byte) : Decoded :=
  match Machine.recognise cfg c with
  | some ch => .instr (charRow ch)
  | none    => .instr (.encFallback c)

/-- A raw GridSelector mask (R53). -/
def decodeSelector (cfg : Config) (m : Word24) : Decoded :=
  match selectorOfMask cfg m with
  | some g => .instr (selectorRow g)
  | none   => .rejected .notOneSelector

/-- A Frame (R54): the selector is what stands outside [15:8]. -/
def decodeFrame (cfg : Config) (f : Word24) : Decoded :=
  match selectorOfMask cfg (f &&& ~~~Machine.segmentMask) with
  | some g => .instr (frameRow (f.extractLsb' 8 8) g)
  | none   => .rejected .notOneSelector

/-- The first operation a sample selects, in the order of R145: RESET when `ev[5] == 1`, STOP when `ev[5:4] == 01`, and with
both clear START, TXDONE, TICK, WRCH (R58). -/
def decodeSample (ev idx ch : Byte) : Decoded :=
  if ev.extractLsb' 6 2 != 0#2 || idx.extractLsb' 4 4 != 0#4 then .rejected .reservedBits
  else if ev.getLsbD 5 then .instr .reset
  else if ev.getLsbD 4 then .instr .stop
  else if ev.getLsbD 3 then .instr .start
  else if ev.getLsbD 2 then .instr .txdone
  else if ev.getLsbD 1 then .instr .tick
  else if ev.getLsbD 0 then .instr (.wrch (idx.setWidth 4) ch)
  else .rejected .noEvent

/-- The named function GRIDSEL: an index 0..8 (R96). -/
def decodeIndex (k : Byte) : Decoded :=
  match selectorOfIndex k with
  | some g => .instr (.gridsel g)
  | none   => .rejected .selectorIndex

/-- The named function FRAME: the SegmentMask in bits 23..0, the raw selector mask in bits 47..24 (R93, R94). -/
def decodeFrameOperands (cfg : Config) (s0 s1 s2 g0 g1 g2 : Byte) : Decoded :=
  match selectorOfMask cfg (wordOf g0 g1 g2) with
  | some g => if s0 = 0#8 ∧ s2 = 0#8 then .instr (.frame g s1) else .rejected .segmentsOutside
  | none   => .rejected .notOneSelector

/-- The named function SELECT with a cursor value 1..8 (R101). -/
def decodeDigitCursor (c : Byte) : Decoded :=
  if h : 1 ≤ c.toNat ∧ c.toNat ≤ 8 then .instr (.selectDigit ⟨c.toNat - 1, by omega⟩) else .rejected .cursorValue

/-- The named function SELECT with the cursor value 0 (R102, R103). -/
def decodeZeroCursor (i : Instr) (c : Byte) : Decoded := if c = 0#8 then .instr i else .rejected .cursorValue

/-- A word of no bytes. -/
def noBytes (bs : List Byte) (i : Instr) : Decoded :=
  match bs with
  | [] => .instr i
  | _  => .rejected .wrongLength

/-- A word of one byte. -/
def oneByte (bs : List Byte) (f : Byte → Decoded) : Decoded :=
  match bs with
  | [b] => f b
  | _   => .rejected .wrongLength

/-- A word of three bytes. -/
def threeBytes (bs : List Byte) (f : Byte → Byte → Byte → Decoded) : Decoded :=
  match bs with
  | [b0, b1, b2] => f b0 b1 b2
  | _            => .rejected .wrongLength

/-- A word of six bytes. -/
def sixBytes (bs : List Byte) (f : Byte → Byte → Byte → Byte → Byte → Byte → Decoded) : Decoded :=
  match bs with
  | [b0, b1, b2, b3, b4, b5] => f b0 b1 b2 b3 b4 b5
  | _                        => .rejected .wrongLength

/-- The decoder, total on every word. -/
def decode (cfg : Config) (w : OpWord) : Decoded :=
  match w.kind with
  | .char8              => oneByte w.bytes (decodeChar cfg)
  | .gridsel24          => threeBytes w.bytes fun b0 b1 b2 => decodeSelector cfg (wordOf b0 b1 b2)
  | .frame24            => threeBytes w.bytes fun b0 b1 b2 => decodeFrame cfg (wordOf b0 b1 b2)
  | .event6             => threeBytes w.bytes decodeSample
  | .named .ser         => threeBytes w.bytes fun b0 b1 b2 => withFrame cfg .ser (wordOf b0 b1 b2)
  | .named .enc         => oneByte w.bytes fun c => .instr (.enc c)
  | .named .gridsel     => oneByte w.bytes decodeIndex
  | .named .frame       => sixBytes w.bytes (decodeFrameOperands cfg)
  | .named .selectDigit => oneByte w.bytes decodeDigitCursor
  | .named .selectSign  => oneByte w.bytes (decodeZeroCursor .selectSign)
  | .named .selectSkip  => oneByte w.bytes (decodeZeroCursor .selectSkip)
  | .named .setdisp     => .instr (.setdisp w.bytes)
  | .named .sendFrame   => threeBytes w.bytes fun b0 b1 b2 => withFrame cfg .sendFrame (wordOf b0 b1 b2)
  | .named .send        => threeBytes w.bytes fun b0 b1 b2 => withFrame cfg .send (wordOf b0 b1 b2)
  | .named .blank       => noBytes w.bytes .blank
  | .named .latch       => noBytes w.bytes .latch
  | .named .unblank     => noBytes w.bytes .unblank

/-! ### Samples with several events (R58, R145) -/

/-- An event vector without its highest event. -/
def clearHighest (ev : Byte) : Byte :=
  if ev.getLsbD 3 then ev &&& 0x07#8
  else if ev.getLsbD 2 then ev &&& 0x03#8
  else if ev.getLsbD 1 then ev &&& 0x01#8
  else 0x00#8

/-- What is left of a word after its first operation: RESET and STOP are performed alone, the other events of a sample in
their order (R145). Every other word is one operation. -/
def restOfSample (w : OpWord) : List Request :=
  match w.kind, w.bytes with
  | .event6, [ev, idx, ch] =>
    if ev.getLsbD 5 || ev.getLsbD 4 || clearHighest ev == 0#8 then []
    else [.word ⟨.event6, [clearHighest ev, idx, ch]⟩]
  | _, _ => []

/-- The operations one sample performs, in the order of R145: RESET alone; else STOP alone; else START, then TXDONE, then TICK,
then WRCH. -/
def sampleOps (ev : BitVec 6) (idx : BitVec 4) (ch : Byte) : List Instr :=
  if ev.getLsbD 5 then [.reset]
  else if ev.getLsbD 4 then [.stop]
  else
    (if ev.getLsbD 3 then [.start] else []) ++ (if ev.getLsbD 2 then [.txdone] else []) ++
      (if ev.getLsbD 1 then [.tick] else []) ++ (if ev.getLsbD 0 then [.wrch idx ch] else [])

/-! ### The encoder -/

/-- The word of a recognised character. -/
def charWord (cfg : Config) (ch : Chr) : OpWord := ⟨.char8, [Machine.charCode cfg ch]⟩

/-- The word of a raw selector mask. -/
def selectorWord (cfg : Config) (g : GridSel) : OpWord := ⟨.gridsel24, wordBytes (Machine.gridselMask cfg g)⟩

/-- The word of a frame. -/
def frameWord (cfg : Config) (g : GridSel) (segs : Byte) : OpWord :=
  ⟨.frame24, wordBytes (Machine.frameOf (Machine.gridselMask cfg g) (Machine.segmentMaskOf segs))⟩

/-- The word of a well-formed instruction. -/
def encode (cfg : Config) : Instr → OpWord
  | .encDigit0 => charWord cfg (.digit 0)
  | .encDigit1 => charWord cfg (.digit 1)
  | .encDigit2 => charWord cfg (.digit 2)
  | .encDigit3 => charWord cfg (.digit 3)
  | .encDigit4 => charWord cfg (.digit 4)
  | .encDigit5 => charWord cfg (.digit 5)
  | .encDigit6 => charWord cfg (.digit 6)
  | .encDigit7 => charWord cfg (.digit 7)
  | .encDigit8 => charWord cfg (.digit 8)
  | .encDigit9 => charWord cfg (.digit 9)
  | .encUpperA => charWord cfg (.upper 0)
  | .encUpperB => charWord cfg (.upper 1)
  | .encUpperC => charWord cfg (.upper 2)
  | .encUpperD => charWord cfg (.upper 3)
  | .encUpperE => charWord cfg (.upper 4)
  | .encUpperF => charWord cfg (.upper 5)
  | .encLowerA => charWord cfg (.lower 0)
  | .encLowerB => charWord cfg (.lower 1)
  | .encLowerC => charWord cfg (.lower 2)
  | .encLowerD => charWord cfg (.lower 3)
  | .encLowerE => charWord cfg (.lower 4)
  | .encLowerF => charWord cfg (.lower 5)
  | .encPoint => charWord cfg .point
  | .encStar => charWord cfg .star
  | .encMinus => charWord cfg .minus
  | .encSpace => charWord cfg .space
  | .encFallback c => ⟨.char8, [c]⟩
  | .gridselGrid0 => selectorWord cfg (.grid 0)
  | .gridselGrid1 => selectorWord cfg (.grid 1)
  | .gridselGrid2 => selectorWord cfg (.grid 2)
  | .gridselGrid3 => selectorWord cfg (.grid 3)
  | .gridselGrid4 => selectorWord cfg (.grid 4)
  | .gridselGrid5 => selectorWord cfg (.grid 5)
  | .gridselGrid6 => selectorWord cfg (.grid 6)
  | .gridselGrid7 => selectorWord cfg (.grid 7)
  | .gridselSign => selectorWord cfg .sign
  | .frameGrid k segs => frameWord cfg (.grid k) segs
  | .frameSign segs => frameWord cfg .sign segs
  | .ser f => ⟨.named .ser, wordBytes f⟩
  | .enc c => ⟨.named .enc, [c]⟩
  | .gridsel g => ⟨.named .gridsel, [selectorIndex g]⟩
  | .frame g segs => ⟨.named .frame, wordBytes (Machine.segmentMaskOf segs) ++ wordBytes (Machine.gridselMask cfg g)⟩
  | .selectDigit j => ⟨.named .selectDigit, [BitVec.ofNat 8 (j.val + 1)]⟩
  | .selectSign => ⟨.named .selectSign, [0x00#8]⟩
  | .selectSkip => ⟨.named .selectSkip, [0x00#8]⟩
  | .reset => ⟨.event6, [0x20#8, 0x00#8, 0x00#8]⟩
  | .stop => ⟨.event6, [0x10#8, 0x00#8, 0x00#8]⟩
  | .start => ⟨.event6, [0x08#8, 0x00#8, 0x00#8]⟩
  | .txdone => ⟨.event6, [0x04#8, 0x00#8, 0x00#8]⟩
  | .tick => ⟨.event6, [0x02#8, 0x00#8, 0x00#8]⟩
  | .wrch i v => ⟨.event6, [0x01#8, i.setWidth 8, v]⟩
  | .setdisp text => ⟨.named .setdisp, text⟩
  | .sendFrame f => ⟨.named .sendFrame, wordBytes f⟩
  | .blank => ⟨.named .blank, []⟩
  | .send f => ⟨.named .send, wordBytes f⟩
  | .latch => ⟨.named .latch, []⟩
  | .unblank => ⟨.named .unblank, []⟩

/-! ### Words as `spec/opcode_table.json` numbers their bits -/

/-- The word whose bits the table gives, by the number of bits (log 9): 48 bits are FRAME's operands; 24 bits, or the low 16
of them, are a raw selector mask where they are one, else a Frame; 6 bits are the event vector; 8
bits are the event vector where they are 0x20 or no recognised character and below 0x40, else a Character. The event
vector alone carries no operands, so a WRCH asked for by it takes wr_idx and wr_char as 0 (log 9, DESIGN CHOICE). -/
def tableWord (nbits w : Nat) : OpWord :=
  if nbits = 48 then
    ⟨.named .frame, wordBytes (BitVec.ofNat 24 w) ++ wordBytes (BitVec.ofNat 24 (w / 0x1000000))⟩
  else if nbits = 24 ∨ nbits = 16 then
    let f := BitVec.ofNat 24 w
    if (selectorOfMask Machine.defaultConfig f).isSome then ⟨.gridsel24, wordBytes f⟩ else ⟨.frame24, wordBytes f⟩
  else if nbits = 8 then
    let b := BitVec.ofNat 8 w
    if b != 0#8 && b < 0x40#8 && (b == 0x20#8 || (Machine.recognise Machine.defaultConfig b).isNone)
    then ⟨.event6, [b, 0#8, 0#8]⟩ else ⟨.char8, [b]⟩
  else if nbits = 6 then ⟨.event6, [BitVec.ofNat 8 (w % 64), 0#8, 0#8]⟩
  else ⟨.char8, []⟩

/-- The instruction the decoder reads from a table word, under the default configuration. -/
def decodeTableWord (nbits w : Nat) : Option Instr :=
  match decode Machine.defaultConfig (tableWord nbits w) with
  | .instr i    => some i
  | .rejected _ => none

end Sys2Proof
end

