-- ==== Sys2Proof/Machine/State.lean ====
section
/-! DEFINITION. The state of the block and of the environment it carries (`spec/10_state.md`), as plain data; the reasons a step
can stop; the state after reset (R26). -/

namespace Sys2Proof.Machine

/-- Whether ticks are served (R17). -/
inductive Phase where
  | init
  | running
  | stopped
deriving DecidableEq, Repr

/-- Whether a frame is in flight (R18). -/
inductive TxState where
  | idle
  | shifting
deriving DecidableEq, Repr

/-- The output events (`spec/00_scope.md` R10). -/
inductive Event where
  | blank
  | send (f : Word24)
  | latch
  | unblank
deriving DecidableEq, Repr

/-- One write of the producer: a cell index and a Character (R116). -/
structure CellWrite where
  index : BitVec 4
  char  : Byte
deriving DecidableEq, Repr

/-- What a pure function asked for by name has answered (log 6; the model's own). -/
inductive Result where
  /-- nothing has been asked for yet -/
  | nothing
  /-- a SegmentMask: ENC (R64) -/
  | segments (s : Word24)
  /-- a raw GridSelector mask: GRIDSEL (R96) -/
  | selector (g : Word24)
  /-- a Frame: FRAME (R93) -/
  | frame (f : Word24)
  /-- a burst, as bytes and as the bits that leave: SER (R97, R35) -/
  | burst (bytes : List Byte) (wire : List Bool)
  /-- the triple (valid, k, ch) of SELECT: `none` is not valid (R101 to R103) -/
  | selection (sel : Option (GridSel × Byte))
deriving DecidableEq, Repr

/-- The DisplayBuffer: the cells that do not hold what an unlisted cell reads as, their indexes rising (log 17). -/
abbrev Memory := List Host.Cell

/-- The machine: block, environment, and the operations still to come. -/
structure State where
  /-- the static configuration (`spec/00_scope.md` R7; no operation writes it, R16) -/
  config   : Config
  /-- RefreshCursor (R14): 4 bits, values 0..8 -/
  cursor   : Fin 9
  /-- DisplayBuffer (R13) -/
  mem      : Memory
  /-- `phase` (R17) -/
  phase    : Phase
  /-- `tx` (R18) -/
  tx       : TxState
  /-- `txf`, the frame in flight (R18) -/
  txf      : Word24
  /-- BLANK, `true` for 1: the display is blanked (R19) -/
  blank    : Bool
  /-- FREEZE, `true` for 1: the output latches hold (R19) -/
  freeze   : Bool
  /-- LATCH, the driver chip's output latches (R20) -/
  latch    : Word24
  /-- the output trace, oldest first (`spec/00_scope.md` R10) -/
  trace    : List Event
  /-- the operations still to come, in their total order (`spec/20_memory.md` R41; log 1) -/
  inputs   : List Request
  /-- the writes of a SETDISP under way (`spec/20_memory.md` R42; log 7) -/
  producer : List CellWrite
  /-- the answer of the last pure function asked for (log 6) -/
  result   : Result
  /-- how many times RESET has left `txf` and LATCH unspecified (log 5) -/
  draws    : Nat
deriving DecidableEq, Repr

/-- A fault of the machine. There is none: no operation raises an exception, and the block has no trap and no fault state
(`spec/60_exceptions.md` R136). -/
inductive Fault
deriving DecidableEq, Repr

/-- Why a step has no meaning. -/
inductive Refusal where
  /-- Raised by an arm of `exec` for an instruction that has no meaning yet; no arm does. Safe. -/
  | notModelled (mnemonic : String)
  /-- Raised by `step` where the next word is no operation of the block (log 12): the spec gives it no meaning (R60, R94). Safe. -/
  | noOperation (reason : Reject)
deriving DecidableEq, Repr

/-- What an operation answers. -/
abbrev Out := Host.Outcome State Fault Refusal

/-- The machine right after reset (R26), with the default configuration (log 2). The spec leaves `txf` and LATCH unspecified;
the zeros are the model's (log 3, log 4, DESIGN CHOICE). -/
def State.reset : State where
  config   := defaultConfig
  cursor   := 0
  mem      := []
  phase    := .init
  tx       := .idle
  txf      := 0x000000#24
  blank    := true
  freeze   := true
  latch    := 0x000000#24
  trace    := []
  inputs   := []
  producer := []
  result   := .nothing
  draws    := 0

end Sys2Proof.Machine
end

