-- ==== Sys2Proof/Machine/Flags.lean ====
section
/-! DEFINITION. The block has no flags, condition codes or predicates (`spec/10_state.md` R21). This file holds the conditions
the rules compute on the spot from the state: `phase == RUNNING`, `tx == IDLE`, `cursor == 0` and "is a sign character". -/

namespace Sys2Proof.Machine

/-- `phase == RUNNING`: ticks are served (`spec/43_refresh_scheduler.md` R115). -/
def isRunning (s : State) : Bool := s.phase == .running

/-- `tx == IDLE`: the transport accepts a frame (`spec/44_blanking_synchronizer.md` R123). -/
def isIdle (s : State) : Bool := s.tx == .idle

/-- How many of the TX_SLOTS slots of the transport hold a frame (D9): `tx == IDLE` says that one is free. -/
def framesHeld (s : State) : Nat :=
  match s.tx with
  | .idle     => 0
  | .shifting => 1

/-- A sign character: '-' or '*', by its code and not by its mask (`spec/42_digit_selector.md` R102). -/
def isSignChar (cfg : Config) (c : Byte) : Bool := c == charCode cfg .minus || c == charCode cfg .star

end Sys2Proof.Machine
end

