-- ==== Sys2Proof/Machine/Ops.lean ====
section
/-! DEFINITION. The named operations over the state: the cells of the DisplayBuffer (`spec/20_memory.md`), the digit selector
(`spec/42_digit_selector.md`), the output primitives and the dispatch of a frame (`spec/44_blanking_synchronizer.md`), and what
the tube shows (`spec/10_state.md` R20). Taking an exception has no operation here: the block has none
(`spec/60_exceptions.md` R136), and its one interrupt, the tick, saves and restores nothing (R146, R147). -/

namespace Sys2Proof.Machine

/-! ### Memory: cells by index, `d` being what an unlisted cell reads as -/

/-- One cell (R38). -/
def Memory.read (d : Byte) : Memory → Nat → Byte
  | [], _ => d
  | (k, v) :: m, a => if k = a then v else Memory.read d m a

/-- The memory without an entry for a cell. -/
def Memory.erase (a : Nat) (m : Memory) : Memory := m.filter fun c => c.1 != a

/-- The memory with one more entry, at its place in the rising order. -/
def Memory.insert (a : Nat) (v : Byte) : Memory → Memory
  | [] => [(a, v)]
  | (k, w) :: m => if a < k then (a, v) :: (k, w) :: m else (k, w) :: Memory.insert a v m

/-- The memory with one cell replaced (R39); the value an unlisted cell reads as is not listed. -/
def Memory.write (d : Byte) (a : Nat) (v : Byte) (m : Memory) : Memory :=
  if v = d then m.erase a else (m.erase a).insert a v

/-- The canonical form: indexes of the buffer, rising, and no entry that says what an unlisted cell reads as. -/
abbrev Memory.wf (d : Byte) (m : Memory) : Prop :=
  m.Pairwise (fun x y => x.1 < y.1) ∧ ∀ c ∈ m, c.2 ≠ d ∧ c.1 < bufLen

/-- What an unlisted cell reads as: the reset content RESET_CHAR (R26; log 17). -/
def State.unlisted (s : State) : Byte := s.config.resetChar

/-- `buf[a]`. -/
def State.readCell (s : State) (a : Nat) : Byte := Memory.read s.unlisted s.mem a

/-- `buf[a] <- v`. -/
def State.writeCell (s : State) (a : Nat) (v : Byte) : State :=
  { s with mem := Memory.write s.unlisted a v s.mem }

/-! ### Answers of pure functions -/

/-- A pure function answers; no state of the block changes (R16; log 6). -/
def State.deliver (s : State) (r : Result) : State := { s with result := r }

/-! ### The digit selector (R100 to R107) -/

/-- SELECT(0, buf): the sign position for a sign character (R102), else what SKIP_POLICY says (R103). -/
def selectAtZero (s : State) : Option (GridSel × Byte) :=
  if isSignChar s.config (s.readCell 0) then some (.sign, s.readCell 0)
  else
    match s.config.skipPolicy with
    | .blankSign => some (.sign, charCode s.config .space)
    | .noFrame   => none

/-- SELECT(c, buf) for c = j + 1 in 1..8: the grid table's entry j and the character of cell c (R101). -/
def selectDigitAt (s : State) (j : Fin 8) : Option (GridSel × Byte) :=
  some (gridTable j, s.readCell (j.val + 1))

/-- SELECT(c, buf). -/
def selectAt (s : State) (c : Fin 9) : Option (GridSel × Byte) :=
  if h : c.val = 0 then selectAtZero s else selectDigitAt s ⟨c.val - 1, by omega⟩

/-! ### The output primitives (R124 to R128) -/

/-- `emit e` (`spec/00_scope.md` R10). -/
def State.emit (s : State) (e : Event) : State := { s with trace := s.trace ++ [e] }

/-- `blank`: BLANK <- 1 (R124). -/
def blankOutput (s : State) : State := { s.emit .blank with blank := true }

/-- `send(f)`: the frame goes to the transport (R125). -/
def sendOutput (f : Word24) (s : State) : State := { s.emit (.send f) with txf := f, tx := .shifting }

/-- FREEZE 0: the driver chip's latches follow its shift register, which after a complete burst holds the frame sent (R127). -/
def unfreeze (s : State) : State := { s with freeze := false, latch := s.txf }

/-- FREEZE 1: the latches hold (R19). -/
def refreeze (s : State) : State := { s with freeze := true }

/-- `latch`: FREEZE goes 1, 0, 1 and LATCH takes the frame (R127; log 16). -/
def latchOutput (s : State) : State := refreeze (unfreeze (s.emit .latch))

/-- `unblank`: BLANK <- 0 (R128). -/
def unblankOutput (s : State) : State := { s.emit .unblank with blank := false }

/-! ### The blanking synchronizer (R123, R126) -/

/-- SEND(f): accepted while the transport is idle, dropped otherwise (R123, R113). -/
def dispatch (f : Word24) (s : State) : State :=
  if isIdle s then sendOutput f (blankOutput s) else s

/-- The end of a burst: latch, unblank, transport idle; nothing while no frame is in flight (R126, R132). -/
def finishBurst (s : State) : State :=
  if isIdle s then s else { unblankOutput (latchOutput s) with tx := .idle }

/-! ### What the tube shows (R20) -/

/-- `visible = (BLANK == 1) ? 0x000000 : LATCH`. -/
def State.visible (s : State) : Word24 := if s.blank then 0x000000#24 else s.latch

end Sys2Proof.Machine
end

