-- ==== Sys2Proof/Machine/BlankingSynchronizer.lean ====
section
/-! DEFINITION. The meanings of the blanking synchronizer (`spec/44_blanking_synchronizer.md`): SEND, TXDONE and the output primitives
blank, send, latch, unblank, each also when asked for by name (log 14). -/

namespace Sys2Proof.Machine

/-- SEND(f) (R123). Its answer "queued" is read by no one and not held (R112; log 15). -/
def execSendFrame (f : Word24) (s : State) : Out := .next (dispatch f s)

/-- TXDONE (R126, R132). -/
def execTxdone (s : State) : Out := .next (finishBurst s)

/-- blank (R124). -/
def execBlank (s : State) : Out := .next (blankOutput s)

/-- send(f) (R125). -/
def execSend (f : Word24) (s : State) : Out := .next (sendOutput f s)

/-- latch (R127). -/
def execLatch (s : State) : Out := .next (latchOutput s)

/-- unblank (R128). -/
def execUnblank (s : State) : Out := .next (unblankOutput s)

end Sys2Proof.Machine
end

