-- ==== Sys2Proof/Machine/CharacterEncoder.lean ====
section
/-! DEFINITION. The meanings of the 7-segment character encoder (`spec/40_character_encoder.md`): one per ENC row, and ENC as a
function. ENC reads no state and writes none (R64); its answer stands in `result` (log 6). -/

namespace Sys2Proof.Machine

/-- ENC '0' (R70). -/
def execEncDigit0 (s : State) : Out := .next (s.deliver (.segments (encChr s.config (.digit 0))))

/-- ENC '1' (R71). -/
def execEncDigit1 (s : State) : Out := .next (s.deliver (.segments (encChr s.config (.digit 1))))

/-- ENC '2' (R72). -/
def execEncDigit2 (s : State) : Out := .next (s.deliver (.segments (encChr s.config (.digit 2))))

/-- ENC '3' (R73). -/
def execEncDigit3 (s : State) : Out := .next (s.deliver (.segments (encChr s.config (.digit 3))))

/-- ENC '4' (R74). -/
def execEncDigit4 (s : State) : Out := .next (s.deliver (.segments (encChr s.config (.digit 4))))

/-- ENC '5' (R75). -/
def execEncDigit5 (s : State) : Out := .next (s.deliver (.segments (encChr s.config (.digit 5))))

/-- ENC '6' (R76). -/
def execEncDigit6 (s : State) : Out := .next (s.deliver (.segments (encChr s.config (.digit 6))))

/-- ENC '7' (R77). -/
def execEncDigit7 (s : State) : Out := .next (s.deliver (.segments (encChr s.config (.digit 7))))

/-- ENC '8' (R78). -/
def execEncDigit8 (s : State) : Out := .next (s.deliver (.segments (encChr s.config (.digit 8))))

/-- ENC '9' (R79). -/
def execEncDigit9 (s : State) : Out := .next (s.deliver (.segments (encChr s.config (.digit 9))))

/-- ENC 'A' (R80). -/
def execEncUpperA (s : State) : Out := .next (s.deliver (.segments (encChr s.config (.upper 0))))

/-- ENC 'B' (R81). -/
def execEncUpperB (s : State) : Out := .next (s.deliver (.segments (encChr s.config (.upper 1))))

/-- ENC 'C' (R82). -/
def execEncUpperC (s : State) : Out := .next (s.deliver (.segments (encChr s.config (.upper 2))))

/-- ENC 'D' (R83). -/
def execEncUpperD (s : State) : Out := .next (s.deliver (.segments (encChr s.config (.upper 3))))

/-- ENC 'E' (R84). -/
def execEncUpperE (s : State) : Out := .next (s.deliver (.segments (encChr s.config (.upper 4))))

/-- ENC 'F' (R85). -/
def execEncUpperF (s : State) : Out := .next (s.deliver (.segments (encChr s.config (.upper 5))))

/-- ENC 'a' (R80). -/
def execEncLowerA (s : State) : Out := .next (s.deliver (.segments (encChr s.config (.lower 0))))

/-- ENC 'b' (R81). -/
def execEncLowerB (s : State) : Out := .next (s.deliver (.segments (encChr s.config (.lower 1))))

/-- ENC 'c' (R82). -/
def execEncLowerC (s : State) : Out := .next (s.deliver (.segments (encChr s.config (.lower 2))))

/-- ENC 'd' (R83). -/
def execEncLowerD (s : State) : Out := .next (s.deliver (.segments (encChr s.config (.lower 3))))

/-- ENC 'e' (R84). -/
def execEncLowerE (s : State) : Out := .next (s.deliver (.segments (encChr s.config (.lower 4))))

/-- ENC 'f' (R85). -/
def execEncLowerF (s : State) : Out := .next (s.deliver (.segments (encChr s.config (.lower 5))))

/-- ENC '.' (R86). -/
def execEncPoint (s : State) : Out := .next (s.deliver (.segments (encChr s.config .point)))

/-- ENC '*' (R87). -/
def execEncStar (s : State) : Out := .next (s.deliver (.segments (encChr s.config .star)))

/-- ENC '-' (R88). -/
def execEncMinus (s : State) : Out := .next (s.deliver (.segments (encChr s.config .minus)))

/-- ENC ' ' (R89). -/
def execEncSpace (s : State) : Out := .next (s.deliver (.segments (encChr s.config .space)))

/-- ENC of a character outside the recognised set: the mask of 'A', whatever the character (R90). -/
def execEncFallback (_c : Byte) (s : State) : Out := .next (s.deliver (.segments (fallbackMask s.config)))

/-- ENC(c), total (R65, R67). -/
def execEnc (c : Byte) (s : State) : Out := .next (s.deliver (.segments (encode7 s.config c)))

end Sys2Proof.Machine
end

