-- ==== Sys2Proof/Machine/DigitSelector.lean ====
section
/-! DEFINITION. The meanings of the digit selector mux (`spec/42_digit_selector.md`). SELECT is pure: it reads one cell and the answer
stands in `result` (log 6). The two rows of c = 0 are the two cases of one function, and the buffer says which holds (log 8). -/

namespace Sys2Proof.Machine

/-- SELECT(c, buf) for c = j + 1 in 1..8 (R101). -/
def execSelectDigit (j : Fin 8) (s : State) : Out := .next (s.deliver (.selection (selectDigitAt s j)))

/-- SELECT(0, buf), the row of a sign character in cell 0 (R102). -/
def execSelectSign (s : State) : Out := .next (s.deliver (.selection (selectAtZero s)))

/-- SELECT(0, buf), the row of any other character in cell 0 (R103). -/
def execSelectSkip (s : State) : Out := .next (s.deliver (.selection (selectAtZero s)))

end Sys2Proof.Machine
end

