-- ==== Sys2Proof/Machine/FrameEncoder.lean ====
section
/-! DEFINITION. The meanings of the VFD frame encoder (`spec/41_frame_encoder.md`): GRIDSEL, FRAME, SER. They read no state and write
none; the answer stands in `result` (log 6). -/

namespace Sys2Proof.Machine

/-- GRIDSEL(0) (R96). -/
def execGridselGrid0 (s : State) : Out := .next (s.deliver (.selector (gridselMask s.config (.grid 0))))

/-- GRIDSEL(1) (R96). -/
def execGridselGrid1 (s : State) : Out := .next (s.deliver (.selector (gridselMask s.config (.grid 1))))

/-- GRIDSEL(2) (R96). -/
def execGridselGrid2 (s : State) : Out := .next (s.deliver (.selector (gridselMask s.config (.grid 2))))

/-- GRIDSEL(3) (R96). -/
def execGridselGrid3 (s : State) : Out := .next (s.deliver (.selector (gridselMask s.config (.grid 3))))

/-- GRIDSEL(4) (R96). -/
def execGridselGrid4 (s : State) : Out := .next (s.deliver (.selector (gridselMask s.config (.grid 4))))

/-- GRIDSEL(5) (R96). -/
def execGridselGrid5 (s : State) : Out := .next (s.deliver (.selector (gridselMask s.config (.grid 5))))

/-- GRIDSEL(6) (R96). -/
def execGridselGrid6 (s : State) : Out := .next (s.deliver (.selector (gridselMask s.config (.grid 6))))

/-- GRIDSEL(7) (R96). -/
def execGridselGrid7 (s : State) : Out := .next (s.deliver (.selector (gridselMask s.config (.grid 7))))

/-- GRIDSEL(8), the sign position (R96). -/
def execGridselSign (s : State) : Out := .next (s.deliver (.selector (gridselMask s.config .sign)))

/-- GRIDSEL of an index 0..8 (R96). -/
def execGridsel (g : GridSel) (s : State) : Out := .next (s.deliver (.selector (gridselMask s.config g)))

/-- FRAME of a standard grid and a segment byte (R93, R54). -/
def execFrameGrid (k : Fin 8) (segs : Byte) (s : State) : Out :=
  .next (s.deliver (.frame (frameOf (gridselMask s.config (.grid k)) (segmentMaskOf segs))))

/-- FRAME of the sign position and a segment byte (R93, R54). -/
def execFrameSign (segs : Byte) (s : State) : Out :=
  .next (s.deliver (.frame (frameOf (gridselMask s.config .sign) (segmentMaskOf segs))))

/-- FRAME(g, s) (R93). -/
def execFrame (g : GridSel) (segs : Byte) (s : State) : Out :=
  .next (s.deliver (.frame (frameOf (gridselMask s.config g) (segmentMaskOf segs))))

/-- SER(f): the burst, and the order its bits leave in (R97, R35). -/
def execSer (f : Word24) (s : State) : Out := .next (s.deliver (.burst (ser f) (wireBits s.config f)))

end Sys2Proof.Machine
end

