-- ==== Sys2Proof/Machine/RefreshScheduler.lean ====
section
/-! DEFINITION. The meanings of the refresh scheduler (`spec/43_refresh_scheduler.md`): TICK, WRCH, SETDISP, START, STOP, and the turn
of the producer that makes the next write of a SETDISP. -/

namespace Sys2Proof.Machine

/-- A served tick: select, encode, dispatch, advance the cursor modulo 9 (R108 steps 1 to 4, R110). -/
def serveTick (s : State) : State :=
  let sent :=
    match selectAt s s.cursor with
    | some (g, ch) => dispatch (charFrame s.config g ch) s
    | none         => s
  { sent with cursor := ⟨(s.cursor.val + 1) % 9, Nat.mod_lt _ (by decide)⟩ }

/-- TICK (R108); outside RUNNING it has no effect at all (R115). -/
def execTick (s : State) : Out := .next (if isRunning s then serveTick s else s)

/-- WRCH(i, v): one cell, in every phase; an index outside the buffer has no effect (R116, R37). -/
def execWrch (i : BitVec 4) (v : Byte) (s : State) : Out :=
  .next (if i.toNat < bufLen then s.writeCell i.toNat v else s)

/-- The ten writes SETDISP expands to, in ascending order: the text cut after its tenth character, and padded with ' '
(R63, R117). -/
def setdispWrites (cfg : Config) (text : List Byte) : List CellWrite :=
  (List.range bufLen).map fun i => ⟨BitVec.ofNat 4 i, text.getD i (charCode cfg .space)⟩

/-- SETDISP(text): the producer has ten more writes to make. It makes them one at a time, and any operation may fall between two
of them (R117, `spec/20_memory.md` R42; log 7). -/
def execSetdisp (text : List Byte) (s : State) : Out :=
  .next { s with producer := s.producer ++ setdispWrites s.config text }

/-- The producer's turn: the next write of a SETDISP under way, which is one WRCH; nothing when there is none (R63). -/
def producerTurn (s : State) : Out :=
  match s.producer with
  | []      => .next s
  | w :: ws => execWrch w.index w.char { s with producer := ws }

/-- A write of the producer: WRCH (R116). -/
def isProducerWrite : Instr → Bool
  | .wrch _ _ => true
  | _         => false

/-- An operation that has to wait for the producer: a WRCH while writes that the producer issued before it, those of a SETDISP
under way, have not taken effect (`spec/20_memory.md` R41: writes take effect in the order the producer issues them). -/
def waitsForProducer (i : Instr) (s : State) : Bool := isProducerWrite i && !s.producer.isEmpty

/-- START: INIT to RUNNING, else no effect (R118). -/
def execStart (s : State) : Out := .next (if s.phase = .init then { s with phase := .running } else s)

/-- STOP: the tick is disabled, the display blanked, the transport released, in that order (R119, R159). -/
def execStop (s : State) : Out :=
  .next { blankOutput { s with phase := .stopped } with tx := .idle }

end Sys2Proof.Machine
end

