-- ==== Sys2Proof/Machine/ResetBoot.lean ====
section
/-! DEFINITION. The meaning of RESET (`spec/70_reset_and_hazards.md` R156). -/

namespace Sys2Proof.Machine

/-- RESET: every piece of block state takes its reset value of `spec/10_state.md` R26; `txf` and LATCH, which R26 leaves
unspecified, take free values (log 5). A frame in flight is abandoned and no output event results. The configuration, the
operations still to come and the producer are not the block's. -/
def execReset (s : State) : Out :=
  .next { s with
    cursor := 0
    mem    := []
    phase  := .init
    tx     := .idle
    txf    := Config.txfAfterReset s.draws
    blank  := true
    freeze := true
    latch  := Config.latchAfterReset s.draws
    draws  := s.draws + 1 }

end Sys2Proof.Machine
end

