-- ==== Sys2Proof/Machine/Dispatch.lean ====
section
/-! DEFINITION. From each operation to its meaning, one arm per row of `spec/opcode_table.json`. -/

namespace Sys2Proof.Machine

open Sys2Proof

def exec (i : Instr) (s : State) : Host.Outcome State Fault Refusal :=
  match i with
  | .encDigit0 => Sys2Proof.Machine.execEncDigit0 s
  | .encDigit1 => Sys2Proof.Machine.execEncDigit1 s
  | .encDigit2 => Sys2Proof.Machine.execEncDigit2 s
  | .encDigit3 => Sys2Proof.Machine.execEncDigit3 s
  | .encDigit4 => Sys2Proof.Machine.execEncDigit4 s
  | .encDigit5 => Sys2Proof.Machine.execEncDigit5 s
  | .encDigit6 => Sys2Proof.Machine.execEncDigit6 s
  | .encDigit7 => Sys2Proof.Machine.execEncDigit7 s
  | .encDigit8 => Sys2Proof.Machine.execEncDigit8 s
  | .encDigit9 => Sys2Proof.Machine.execEncDigit9 s
  | .encUpperA => Sys2Proof.Machine.execEncUpperA s
  | .encUpperB => Sys2Proof.Machine.execEncUpperB s
  | .encUpperC => Sys2Proof.Machine.execEncUpperC s
  | .encUpperD => Sys2Proof.Machine.execEncUpperD s
  | .encUpperE => Sys2Proof.Machine.execEncUpperE s
  | .encUpperF => Sys2Proof.Machine.execEncUpperF s
  | .encLowerA => Sys2Proof.Machine.execEncLowerA s
  | .encLowerB => Sys2Proof.Machine.execEncLowerB s
  | .encLowerC => Sys2Proof.Machine.execEncLowerC s
  | .encLowerD => Sys2Proof.Machine.execEncLowerD s
  | .encLowerE => Sys2Proof.Machine.execEncLowerE s
  | .encLowerF => Sys2Proof.Machine.execEncLowerF s
  | .encPoint => Sys2Proof.Machine.execEncPoint s
  | .encStar => Sys2Proof.Machine.execEncStar s
  | .encMinus => Sys2Proof.Machine.execEncMinus s
  | .encSpace => Sys2Proof.Machine.execEncSpace s
  | .encFallback c => Sys2Proof.Machine.execEncFallback c s
  | .gridselGrid0 => Sys2Proof.Machine.execGridselGrid0 s
  | .gridselGrid1 => Sys2Proof.Machine.execGridselGrid1 s
  | .gridselGrid2 => Sys2Proof.Machine.execGridselGrid2 s
  | .gridselGrid3 => Sys2Proof.Machine.execGridselGrid3 s
  | .gridselGrid4 => Sys2Proof.Machine.execGridselGrid4 s
  | .gridselGrid5 => Sys2Proof.Machine.execGridselGrid5 s
  | .gridselGrid6 => Sys2Proof.Machine.execGridselGrid6 s
  | .gridselGrid7 => Sys2Proof.Machine.execGridselGrid7 s
  | .gridselSign => Sys2Proof.Machine.execGridselSign s
  | .frameGrid k segs => Sys2Proof.Machine.execFrameGrid k segs s
  | .frameSign segs => Sys2Proof.Machine.execFrameSign segs s
  | .ser f => Sys2Proof.Machine.execSer f s
  | .enc c => Sys2Proof.Machine.execEnc c s
  | .gridsel g => Sys2Proof.Machine.execGridsel g s
  | .frame g segs => Sys2Proof.Machine.execFrame g segs s
  | .selectDigit j => Sys2Proof.Machine.execSelectDigit j s
  | .selectSign => Sys2Proof.Machine.execSelectSign s
  | .selectSkip => Sys2Proof.Machine.execSelectSkip s
  | .reset => Sys2Proof.Machine.execReset s
  | .stop => Sys2Proof.Machine.execStop s
  | .start => Sys2Proof.Machine.execStart s
  | .txdone => Sys2Proof.Machine.execTxdone s
  | .tick => Sys2Proof.Machine.execTick s
  | .wrch idx v => Sys2Proof.Machine.execWrch idx v s
  | .setdisp text => Sys2Proof.Machine.execSetdisp text s
  | .sendFrame f => Sys2Proof.Machine.execSendFrame f s
  | .blank => Sys2Proof.Machine.execBlank s
  | .send f => Sys2Proof.Machine.execSend f s
  | .latch => Sys2Proof.Machine.execLatch s
  | .unblank => Sys2Proof.Machine.execUnblank s

end Sys2Proof.Machine
end

