-- ==== Sys2Proof/Machine/Step.lean ====
section
/-! DEFINITION. One step of the machine: the next place in the total order of operations (`spec/20_memory.md` R41) is taken and
performed. -/

namespace Sys2Proof.Machine

/-- One step. The operation asked for is performed on the state whose `inputs` are what is left: the rest of its own sample
first (`spec/60_exceptions.md` R145), then the places after it. A sample that selects no event changes nothing else (R58). A word
that is no operation is refused (log 12). A WRCH waits at the head of `inputs` until the writes that the producer issued before
it have been made, one a step (`spec/20_memory.md` R41). With nothing asked for, the producer goes on with a SETDISP it has under way, and
otherwise the block is idle (`spec/60_exceptions.md` R154; log 1). -/
def step (s : State) : Host.Outcome State Fault Refusal :=
  match s.inputs with
  | [] => producerTurn s
  | .producerTurn :: rest => producerTurn { s with inputs := rest }
  | .word w :: rest =>
    match decode s.config w with
    | .instr i            =>
      if waitsForProducer i s then producerTurn s else exec i { s with inputs := restOfSample w ++ rest }
    | .rejected .noEvent  => .next { s with inputs := rest }
    | .rejected r         => .refused (.noOperation r)

/-- The state whose next operation is the table's word `w` of `nbits` bits (log 1, log 9). -/
def State.withFetchWord (s : State) (nbits w : Nat) : State :=
  { s with inputs := .word (tableWord nbits w) :: s.inputs }

end Sys2Proof.Machine
end

