-- ==== Sys2Proof/Machine/Ports.lean ====
section
/-! DEFINITION. The outputs of the port-level refinement that `spec/92_eei_decisions.md` D10 offers, read off the states before
and after one sample (log 18). The model is event-level; nothing reads these. -/

namespace Sys2Proof.Machine

/-- The output ports of D10. -/
structure PortOutputs where
  frame      : Word24
  frameValid : Bool
  blank      : Bool
  freeze     : Bool
deriving DecidableEq, Repr

/-- The events emitted between two states of a run. -/
def newEvents (before after : State) : List Event := after.trace.drop before.trace.length

/-- `frame_valid` is a strobe for `send`, `freeze` is low for `latch`, `blank` is BLANK (D10). -/
def portOutputs (before after : State) : PortOutputs where
  frame      := after.txf
  frameValid := (newEvents before after).any fun e => match e with | .send _ => true | _ => false
  blank      := after.blank
  freeze     := after.freeze && !((newEvents before after).contains .latch)

end Sys2Proof.Machine
end

