-- ==== Sys2Proof/Safety.lean ====
section
/-! DEFINITION. What counts as a safe run: the invariants of `spec/10_state.md` R27, the output trace of
`spec/44_blanking_synchronizer.md` R129, and runs of operations one after another. -/

namespace Sys2Proof.Safety

open Sys2Proof.Machine

/-- The kinds of word the surroundings may ask for (`spec/70_reset_and_hazards.md` R171): the input events and SETDISP, and the
pure functions, which touch no state. SEND is called only by TICK (R123), and blank, send, latch and unblank are outputs. -/
def mayBeAsked : OpKind → Bool
  | .named .sendFrame => false
  | .named .blank     => false
  | .named .send      => false
  | .named .latch     => false
  | .named .unblank   => false
  | _                 => true

/-- One entry of `inputs` that the surroundings may cause. -/
def requestAllowed : Request → Bool
  | .word w       => mayBeAsked w.kind
  | .producerTurn => true

/-- The same on instructions. -/
def isOutsideOp : Instr → Bool
  | .sendFrame _ => false
  | .blank       => false
  | .send _      => false
  | .latch       => false
  | .unblank     => false
  | _            => true

/-- What one output event does to the last frame sent and the last frame latched. -/
def noteEvent : Option Word24 × Option Word24 → Event → Option Word24 × Option Word24
  | (_, shown), .send f  => (some f, shown)
  | (sent, _), .latch    => (sent, sent)
  | p, .blank            => p
  | p, .unblank          => p

/-- The last frame sent and the last frame latched, read off an output trace. -/
def traceFrames (t : List Event) : Option Word24 × Option Word24 := t.foldl noteEvent (none, none)

/-- The invariants of R27, with what keeps them inductive: only operations of the surroundings are to come, the frame in flight
is the last one sent, and the lit frame is well formed (R131). -/
structure BlockInv (s : State) : Prop where
  inputs_allowed  : s.inputs.all requestAllowed = true
  cells_canonical : Memory.wf s.unlisted s.mem
  freeze_holds    : s.freeze = true
  burst_blanked   : s.tx = .shifting → s.blank = true
  burst_running   : s.tx = .shifting → s.phase = .running
  burst_frame     : s.tx = .shifting → wellFormedFrame s.config s.txf = true
  burst_sent      : s.tx = .shifting → (traceFrames s.trace).1 = some s.txf
  lit_running     : s.blank = false → s.phase = .running ∧ s.tx = .idle
  lit_latched     : s.blank = false → (traceFrames s.trace).2 = some s.latch
  lit_frame       : s.blank = false → wellFormedFrame s.config s.latch = true

/-- Operations one after another, stopping at the first that does not answer a next state. -/
def runOps : List Instr → State → Out
  | [], s => .next s
  | i :: is, s =>
    match exec i s with
    | .next t    => runOps is t
    | .fault r   => .fault r
    | .refused r => .refused r

/-- Steps one after another. -/
def runSteps : Nat → State → Out
  | 0, s => .next s
  | n + 1, s =>
    match step s with
    | .next t    => runSteps n t
    | .fault r   => .fault r
    | .refused r => .refused r

/-- The trace of whole transmissions: blank, send, latch, unblank for each frame in turn (R129). -/
def transmissions (fs : List Word24) : List Event := fs.flatMap fun f => [.blank, .send f, .latch, .unblank]

/-- A trace that is such a sequence, complete or cut short (R129). -/
def Bracketed (t : List Event) : Prop := ∃ fs, t <+: transmissions fs

end Sys2Proof.Safety
end

