-- ==== Sys2Proof/Certificates/Slice0/Obligations.lean ====
section
/-! DEFINITION. The statements for the provers, from the numbered rules of the spec. A statement over every state quantifies over
every configuration, so over both values of SKIP_POLICY, unless it says `s.config = defaultConfig`. An equation
`exec i s = .next { s with … }` says the result, that every other field is unchanged, and that the instruction completes. The
answer of a pure function asked for by name stands in the model's field `result` (log 6). -/

namespace Sys2Proof.Certificates

open Sys2Proof.Machine Sys2Proof.Safety

/-! ### Rows written out from the spec -/

/-- What one ENC row of the spec says: its code, its SegmentMask, and its example: a selector and the frame there. -/
structure EncRow where
  row   : Instr
  code  : Byte
  mask  : Word24
  place : GridSel
  frame : Word24

/-- R70 to R79. -/
def digitRows : List EncRow :=
  [⟨.encDigit0, 0x30#8, 0x003F00#24, .grid 0, 0x013F00#24⟩, ⟨.encDigit1, 0x31#8, 0x000600#24, .grid 7, 0x800600#24⟩,
   ⟨.encDigit2, 0x32#8, 0x005B00#24, .grid 6, 0x405B00#24⟩, ⟨.encDigit3, 0x33#8, 0x004F00#24, .grid 5, 0x204F00#24⟩,
   ⟨.encDigit4, 0x34#8, 0x006600#24, .grid 4, 0x106600#24⟩, ⟨.encDigit5, 0x35#8, 0x006D00#24, .grid 2, 0x046D00#24⟩,
   ⟨.encDigit6, 0x36#8, 0x007D00#24, .grid 2, 0x047D00#24⟩, ⟨.encDigit7, 0x37#8, 0x000700#24, .grid 1, 0x020700#24⟩,
   ⟨.encDigit8, 0x38#8, 0x007F00#24, .grid 0, 0x017F00#24⟩, ⟨.encDigit9, 0x39#8, 0x006F00#24, .grid 3, 0x086F00#24⟩]

/-- R80 to R85, both cases of each letter. -/
def letterRows : List EncRow :=
  [⟨.encUpperA, 0x41#8, 0x007700#24, .grid 5, 0x207700#24⟩, ⟨.encLowerA, 0x61#8, 0x007700#24, .grid 5, 0x207700#24⟩,
   ⟨.encUpperB, 0x42#8, 0x007C00#24, .grid 3, 0x087C00#24⟩, ⟨.encLowerB, 0x62#8, 0x007C00#24, .grid 3, 0x087C00#24⟩,
   ⟨.encUpperC, 0x43#8, 0x003900#24, .grid 0, 0x013900#24⟩, ⟨.encLowerC, 0x63#8, 0x003900#24, .grid 0, 0x013900#24⟩,
   ⟨.encUpperD, 0x44#8, 0x005E00#24, .grid 7, 0x805E00#24⟩, ⟨.encLowerD, 0x64#8, 0x005E00#24, .grid 7, 0x805E00#24⟩,
   ⟨.encUpperE, 0x45#8, 0x007900#24, .grid 6, 0x407900#24⟩, ⟨.encLowerE, 0x65#8, 0x007900#24, .grid 6, 0x407900#24⟩,
   ⟨.encUpperF, 0x46#8, 0x007100#24, .grid 0, 0x017100#24⟩, ⟨.encLowerF, 0x66#8, 0x007100#24, .grid 0, 0x017100#24⟩]

/-- R86 to R89. -/
def punctuationRows : List EncRow :=
  [⟨.encPoint, 0x2E#8, 0x008000#24, .grid 3, 0x088000#24⟩, ⟨.encStar, 0x2A#8, 0x008000#24, .sign, 0x008080#24⟩,
   ⟨.encMinus, 0x2D#8, 0x004000#24, .sign, 0x004080#24⟩, ⟨.encSpace, 0x20#8, 0x000000#24, .grid 1, 0x020000#24⟩]

/-- A row does what it says in a state: it and ENC of its code answer its mask and change nothing else, its code decodes to it,
and its example frame is the one FRAME gives. -/
def EncRow.Holds (r : EncRow) (s : State) : Prop :=
  exec r.row s = .next { s with result := .segments r.mask } ∧
  exec (.enc r.code) s = .next { s with result := .segments r.mask } ∧
  decode s.config ⟨.char8, [r.code]⟩ = .instr r.row ∧
  charFrame s.config r.place r.code = r.frame

/-- The GRIDSEL rows with their index and mask (R53, R96). -/
def selectorRows : List (Instr × GridSel × Byte × Word24) :=
  [(.gridselGrid0, .grid 0, 0#8, 0x010000#24), (.gridselGrid1, .grid 1, 1#8, 0x020000#24),
   (.gridselGrid2, .grid 2, 2#8, 0x040000#24), (.gridselGrid3, .grid 3, 3#8, 0x080000#24),
   (.gridselGrid4, .grid 4, 4#8, 0x100000#24), (.gridselGrid5, .grid 5, 5#8, 0x200000#24),
   (.gridselGrid6, .grid 6, 6#8, 0x400000#24), (.gridselGrid7, .grid 7, 7#8, 0x800000#24),
   (.gridselSign, .sign, 8#8, 0x000080#24)]

/-! ### Shorthands -/

/-- The state after a frame has been accepted by the transport and the cursor has moved. -/
def afterSend (s : State) (c : Fin 9) (f : Word24) : State :=
  { s with cursor := c, blank := true, txf := f, tx := .shifting, trace := s.trace ++ [.blank, .send f] }

/-- The cell holds a sign character (R102). -/
def holdsSign (s : State) : Prop :=
  s.readCell 0 = charCode s.config .minus ∨ s.readCell 0 = charCode s.config .star

/-- One cycle of nine ticks, each burst ended before the next tick (R114). -/
def cycleOps : List Instr := (List.replicate 9 [Instr.tick, Instr.txdone]).flatten

/-- Operations with the writes that the producer has still to make standing before each WRCH (R41). -/
def withPending (ws : List CellWrite) (ops : List Instr) : List Instr :=
  ops.flatMap fun i => if isProducerWrite i then ws.map (fun w => .wrch w.index w.char) ++ [i] else [i]

/-- The rows that are pure functions (R16): ENC, GRIDSEL, FRAME, SER, SELECT. -/
def isPure : Instr → Bool
  | .reset | .stop | .start | .txdone | .tick | .blank | .latch | .unblank => false
  | .wrch _ _ | .setdisp _ | .sendFrame _ | .send _ => false
  | _ => true

end Sys2Proof.Certificates

open Sys2Proof Sys2Proof.Machine Sys2Proof.Safety Sys2Proof.Certificates

/-! ### Encoding -/

/-- Decoding the word of a well-formed instruction gives the instruction back, under every legal configuration
(`spec/30_encoding.md` sections 1 and 2; the layout of a word is the model's, log 9 and log 10). -/
def Obligations.DecodeEncodeRoundTrip : Prop :=
  ∀ cfg : Config, cfg.Legal → ∀ i, wellFormed cfg i = true → decode cfg (encode cfg i) = .instr i

/-- Except in a sample, where several events may stand in one word, a word has one meaning: the decoded instruction is well
formed and its own word is the word decoded (the layout of a word is the model's, log 9). -/
def Obligations.EachWordHasOneMeaning : Prop :=
  ∀ (cfg : Config) (w : OpWord) (i : Instr), decode cfg w = .instr i →
    wellFormed cfg i = true ∧ (w.kind ≠ .event6 → encode cfg i = w)

/-- Words written out from the encodings of the spec decode to the instructions they stand for. That a word is a kind and
bytes, the byte with bits 7..0 first (not the wire order of R34), and the layout of a sample are the model's (log 9, log 10). -/
def Obligations.SpecWordsDecode : Prop :=
  decode defaultConfig ⟨.char8, [0b00110101#8]⟩ = .instr .encDigit5 ∧
  decode defaultConfig ⟨.gridsel24, [0x00#8, 0x00#8, 0b10000000#8]⟩ = .instr .gridselGrid7 ∧
  decode defaultConfig ⟨.frame24, [0x00#8, 0b01011110#8, 0b10000000#8]⟩ = .instr (.frameGrid 7 0x5E#8) ∧
  decode defaultConfig ⟨.event6, [0b00000010#8, 0x00#8, 0x00#8]⟩ = .instr .tick ∧
  decode defaultConfig ⟨.event6, [0b00000001#8, 0x09#8, 0x5A#8]⟩ = .instr (.wrch 9 0x5A#8)

/-- A step performs the next operation of the total order: the decoded instruction on the state whose `inputs` are the rest of
its sample and what follows; but a WRCH stays where it is while the producer has earlier writes to make, and the step makes the
next of these (R41); a sample without events changes nothing else; the producer's turn is its next WRCH, and it goes on by itself
when nothing else is to come (model's choice of form: log 1, log 7). -/
def Obligations.StepRunsTheDecodedOperation : Prop :=
  (∀ (s : State) (w : OpWord) (rest : List Request) (i : Instr), s.inputs = .word w :: rest →
    decode s.config w = .instr i → (s.producer = [] ∨ ∀ a v, i ≠ .wrch a v) →
    step s = exec i { s with inputs := restOfSample w ++ rest }) ∧
  (∀ (s : State) (w : OpWord) (rest : List Request) (a : BitVec 4) (v : Byte) (cw : CellWrite) (ws : List CellWrite),
    s.inputs = .word w :: rest → decode s.config w = .instr (.wrch a v) → s.producer = cw :: ws →
    step s = exec (.wrch cw.index cw.char) { s with producer := ws }) ∧
  (∀ (s : State) (w : OpWord) (rest : List Request), s.inputs = .word w :: rest →
    decode s.config w = .rejected .noEvent → step s = .next { s with inputs := rest }) ∧
  (∀ (s : State) (rest : List Request) (cw : CellWrite) (ws : List CellWrite), s.inputs = .producerTurn :: rest →
    s.producer = cw :: ws → step s = exec (.wrch cw.index cw.char) { s with inputs := rest, producer := ws }) ∧
  (∀ (s : State) (cw : CellWrite) (ws : List CellWrite), s.inputs = [] →
    s.producer = cw :: ws → step s = exec (.wrch cw.index cw.char) { s with producer := ws }) ∧
  (∀ (s : State), s.inputs = [] → s.producer = [] → step s = .next s)

/-- A sample that selects events performs exactly them, in the order of R145: RESET alone, else STOP alone, else START, TXDONE,
TICK, WRCH. Writes that the producer issued before take effect before its WRCH (R41); that the WRCH of a sample waits for them
after the START, TXDONE and TICK of the sample, so that they come right before it, is the model's choice (log 7). The layout of a
sample in a word is the model's (log 10). -/
def Obligations.SamplePerformsItsEventsInOrder : Prop :=
  ∀ (s : State) (rest : List Request) (ev : BitVec 6) (idx : BitVec 4) (ch : Byte), ev ≠ 0 →
    s.inputs = .word ⟨.event6, [ev.setWidth 8, idx.setWidth 8, ch]⟩ :: rest →
    runSteps (withPending s.producer (sampleOps ev idx ch)).length s =
      runOps (withPending s.producer (sampleOps ev idx ch))
        { s with inputs := rest, producer := if .wrch idx ch ∈ sampleOps ev idx ch then [] else s.producer } ∧
    (ev.getLsbD 5 = true → sampleOps ev idx ch = [.reset]) ∧
    (ev.getLsbD 5 = false → ev.getLsbD 4 = true → sampleOps ev idx ch = [.stop]) ∧
    (ev.getLsbD 5 = false → ev.getLsbD 4 = false → sampleOps ev idx ch =
      ([(3, Instr.start), (2, .txdone), (1, .tick), (0, .wrch idx ch)].filter fun p => ev.getLsbD p.1).map (·.2))

/-! ### The character encoder -/

/-- The ten digits; '6' differs from 'b', no hex glyph has a larger mask than '8', and '5' is no sign character, so at index 0
it is not displayed (R70 to R79). -/
def Obligations.DigitGlyphs : Prop :=
  ∀ s : State, s.config = defaultConfig → (∀ r ∈ digitRows, r.Holds s) ∧
    encode7 s.config 0x36#8 ≠ encode7 s.config 0x62#8 ∧
    (∀ h : Fin 16, segmentMaskOf (segmentByte s.config s.config.glyph[h]) ≤ 0x007F00#24) ∧
    (s.readCell 0 = 0x35#8 → selectAt s 0 = some (.sign, 0x20#8))

/-- The six hex letters in both cases, and the fallback value that R80 names (R80 to R85). -/
def Obligations.HexLetterGlyphs : Prop :=
  ∀ s : State, s.config = defaultConfig → (∀ r ∈ letterRows, r.Holds s) ∧ fallbackMask s.config = 0x007700#24

/-- Point, degree, minus and space; at index 0 '*' and '-' are shown on the sign position, '.' and ' ' are not
displayed: the default SKIP_POLICY selects the sign position with every segment dark (R103); at an index 1..8 '*' lights
the decimal point and '-' segment G of that grid (R86 to R89; what they do at an index 1..8 is an inference that R87 and R88
mark [derived: from rule R65 and rule R101]). -/
def Obligations.PunctuationGlyphs : Prop :=
  ∀ s : State, s.config = defaultConfig → (∀ r ∈ punctuationRows, r.Holds s) ∧
    (s.readCell 0 = 0x2A#8 ∨ s.readCell 0 = 0x2D#8 → selectAt s 0 = some (.sign, s.readCell 0)) ∧
    (s.readCell 0 = 0x2E#8 ∨ s.readCell 0 = 0x20#8 → selectAt s 0 = some (.sign, 0x20#8)) ∧
    (∀ c : Fin 9, 1 ≤ c.val → ∃ k : Fin 8, k.val = 8 - c.val ∧
      (s.readCell c.val = 0x2A#8 → selectAt s c = some (.grid k, 0x2A#8) ∧
        charFrame s.config (.grid k) 0x2A#8 = gridselMask s.config (.grid k) ||| 0x008000#24) ∧
      (s.readCell c.val = 0x2D#8 → selectAt s c = some (.grid k, 0x2D#8) ∧
        charFrame s.config (.grid k) 0x2D#8 = gridselMask s.config (.grid k) ||| 0x004000#24))

/-- Every code outside the recognised set takes the mask of 'A' (R90 but for its count of codes, log 11). -/
def Obligations.UnrecognisedTakesTheFallback : Prop :=
  ∀ s : State, s.config = defaultConfig → ∀ c : Byte, c ∉ asciiCodes.toList →
    exec (.encFallback c) s = .next { s with result := .segments 0x007700#24 } ∧
    exec (.enc c) s = .next { s with result := .segments 0x007700#24 } ∧
    decode s.config ⟨.char8, [c]⟩ = .instr (.encFallback c)

/-- ENC is total: it answers a SegmentMask for every code, in every state and configuration, and changes nothing else; an
invalid character resolves to the fallback (R67). -/
def Obligations.EncoderIsTotal : Prop :=
  ∀ (s : State) (c : Byte), ∃ m, exec (.enc c) s = .next { s with result := .segments m } ∧
    ((∀ ch, charCode s.config ch ≠ c) → m = fallbackMask s.config)

/-- ENC answers what the row its code decodes to answers (R65). -/
def Obligations.EncodingFollowsItsRow : Prop :=
  ∀ (s : State) (c : Byte), ∃ i, decode s.config ⟨.char8, [c]⟩ = .instr i ∧ exec i s = exec (.enc c) s

/-- Only the six hex letters fold; every other letter takes the fallback (R69). -/
def Obligations.OnlyHexLettersFold : Prop :=
  ∀ s : State, s.config = defaultConfig →
    (∀ h : Fin 6, exec (.enc (0x61#8 + BitVec.ofNat 8 h.val)) s = exec (.enc (0x41#8 + BitVec.ofNat 8 h.val)) s) ∧
    (∀ n : Fin 26, 6 ≤ n.val →
      exec (.enc (0x41#8 + BitVec.ofNat 8 n.val)) s = .next { s with result := .segments (fallbackMask s.config) } ∧
      exec (.enc (0x61#8 + BitVec.ofNat 8 n.val)) s = .next { s with result := .segments (fallbackMask s.config) })

/-- Whatever the configuration, ENC sets only bits 15..8, and DOT never together with another segment (R66). -/
def Obligations.SegmentsStayInTheirField : Prop :=
  ∀ (s : State) (c : Byte), ∃ m, exec (.enc c) s = .next { s with result := .segments m } ∧
    m &&& ~~~segmentMask = 0#24 ∧ (m.getLsbD 15 = true → m = 0x008000#24)

/-! ### The frame encoder -/

/-- The nine selectors: rows, index and mask; one bit within GRID_MASK; no other index is a selector (R96). That the
index comes in a word of one byte, selected by name, and that another index is refused, are the model's (log 9, log 12). -/
def Obligations.SelectorMasks : Prop :=
  ∀ s : State, s.config = defaultConfig →
    (∀ r ∈ selectorRows,
      exec r.1 s = .next { s with result := .selector r.2.2.2 } ∧
      exec (.gridsel r.2.1) s = .next { s with result := .selector r.2.2.2 } ∧
      decode s.config ⟨.named .gridsel, [r.2.2.1]⟩ = .instr (.gridsel r.2.1) ∧
      oneBit r.2.2.2 = true ∧ r.2.2.2 &&& 0xFF0080#24 = r.2.2.2) ∧
    (∀ k : Byte, 8 < k.toNat → decode s.config ⟨.named .gridsel, [k]⟩ = .rejected .selectorIndex)

/-- FRAME is the bitwise OR of a selector mask and a SegmentMask (R93). -/
def Obligations.FrameIsTheOr : Prop :=
  (∀ (s : State) (g : GridSel) (segs : Byte),
    exec (.frame g segs) s = .next { s with result := .frame (gridselMask s.config g ||| segmentMaskOf segs) }) ∧
  (∀ (s : State) (k : Fin 8) (segs : Byte),
    exec (.frameGrid k segs) s = .next { s with result := .frame (gridselMask s.config (.grid k) ||| segmentMaskOf segs) }) ∧
  (∀ (s : State) (segs : Byte),
    exec (.frameSign segs) s = .next { s with result := .frame (gridselMask s.config .sign ||| segmentMaskOf segs) }) ∧
  (∀ (cfg : Config) (g : GridSel), frameOf (gridselMask cfg g) (segmentMaskOf 0#8) = gridselMask cfg g) ∧
  (∀ (cfg : Config) (segs : Byte), (frameOf (gridselMask cfg .sign) (segmentMaskOf segs)).extractLsb' 16 8 = 0#8) ∧
  frameOf 0x800000#24 0x005E00#24 = 0x805E00#24

/-- Both operands of FRAME can be taken out of the frame again with GRID_MASK and SEGMENT_MASK (R95). -/
def Obligations.FrameFieldsRoundTrip : Prop :=
  (∀ (s : State) (g : GridSel) (segs : Byte), ∃ f,
    exec (.frame g segs) s = .next { s with result := .frame f } ∧
    f &&& gridMask s.config = gridselMask s.config g ∧ f &&& segmentMask = segmentMaskOf segs) ∧
  (∀ (cfg : Config) (g : GridSel) (segs : Byte),
    gridselMask cfg g &&& segmentMask = 0#24 ∧ segmentMaskOf segs &&& gridMask cfg = 0#24 ∧
    gridselMask cfg g &&& ~~~gridMask cfg = 0#24 ∧ segmentMaskOf segs &&& ~~~segmentMask = 0#24) ∧
  gridMask defaultConfig = 0xFF0080#24 ∧ segmentMask = 0x00FF00#24

/-- Every frame of a selector and a character is well formed: exactly one selector bit, and zero outside the two fields (R98). -/
def Obligations.CharFramesAreWellFormed : Prop :=
  ∀ (cfg : Config) (g : GridSel) (c : Byte), wellFormedFrame cfg (charFrame cfg g c) = true

/-- SER names the three bytes, most significant first; the third is 0x80 for a sign frame and 0x00 for every other (R97). -/
def Obligations.BurstIsMostSignificantByteFirst : Prop :=
  (∀ (s : State) (f : Word24), ∃ wire, exec (.ser f) s =
    .next { s with result := .burst [f.extractLsb' 16 8, f.extractLsb' 8 8, f.extractLsb' 0 8] wire }) ∧
  (∀ segs : Byte, ser (frameOf (gridselMask defaultConfig .sign) (segmentMaskOf segs)) = [0x00#8, segs, 0x80#8]) ∧
  (∀ (k : Fin 8) (segs : Byte), ser (frameOf (gridselMask defaultConfig (.grid k)) (segmentMaskOf segs)) =
    [1#8 <<< k.val, segs, 0x00#8])

/-- With msb_first the whole frame leaves as bit 23 first and bit 0 last; with lsb_first each byte leaves bit 0 first while the
byte order stays (R35). -/
def Obligations.WireBitOrder : Prop :=
  defaultConfig.bitOrder = .msbFirst ∧ ∀ (s : State) (f : Word24), ∃ wire,
    exec (.ser f) s = .next { s with result := .burst (ser f) wire } ∧ wire.length = 24 ∧
    (s.config.bitOrder = .msbFirst → ∀ n < 24, wire[n]? = some (f.getLsbD (23 - n))) ∧
    (s.config.bitOrder = .lsbFirst → ∀ b < 3, ∀ n < 8, wire[8 * b + n]? = some (f.getLsbD (8 * (2 - b) + n)))

/-! ### The digit selector -/

/-- SELECT(c, buf) for c = j + 1 in 1..8: grid 8 - c and the character of cell c, whatever it is (R101). That the
cursor value comes in a word of one byte, selected by name, is the model's (log 9). -/
def Obligations.SelectDigitPosition : Prop :=
  (∀ (s : State) (j : Fin 8), exec (.selectDigit j) s =
    .next { s with result := .selection (some (.grid ⟨8 - (j.val + 1), by omega⟩, s.readCell (j.val + 1))) }) ∧
  (∀ (cfg : Config) (j : Fin 8),
    decode cfg ⟨.named .selectDigit, [BitVec.ofNat 8 (j.val + 1)]⟩ = .instr (.selectDigit j))

/-- SELECT(0, buf) with a sign character in cell 0: the sign position and that character; the test is on the code and not on the
mask: '.' has the mask of '*' and is no sign character, so SELECT does not answer it but the skip case (R102). -/
def Obligations.SelectSignPosition : Prop :=
  ∀ s : State,
    (holdsSign s → exec .selectSign s = .next { s with result := .selection (some (.sign, s.readCell 0)) }) ∧
    (s.config = defaultConfig → s.readCell 0 = 0x2D#8 →
      exec .selectSign s = .next { s with result := .selection (some (.sign, 0x2D#8)) } ∧
      charFrame s.config .sign 0x2D#8 = 0x004080#24) ∧
    (s.config = defaultConfig → s.readCell 0 = 0x2E#8 → ¬ holdsSign s ∧ encode7 s.config 0x2E#8 = encode7 s.config 0x2A#8 ∧
      selectAt s 0 = some (.sign, 0x20#8) ∧
      exec .selectSkip s = .next { s with result := .selection (some (.sign, 0x20#8)) })

/-- SELECT(0, buf) without a sign character: the blank sign position, or no frame, as SKIP_POLICY says (R103). -/
def Obligations.SelectSkipsCellZero : Prop :=
  ∀ s : State, ¬ holdsSign s →
    (s.config.skipPolicy = .blankSign →
      exec .selectSkip s = .next { s with result := .selection (some (.sign, charCode s.config .space)) }) ∧
    (s.config.skipPolicy = .noFrame → exec .selectSkip s = .next { s with result := .selection none })

/-! ### The refresh scheduler -/

/-- A TICK: outside RUNNING, nothing; in RUNNING, with an idle transport the frame of the selected position is accepted, with a
busy one it is dropped, at cursor 0 without a sign character SKIP_POLICY decides, and the cursor always moves on by one, modulo 9 (R108, R110). -/
def Obligations.TickRunsItsFourSteps : Prop :=
  (∀ s : State, s.phase ≠ .running → exec .tick s = .next s) ∧
  ∀ s : State, s.phase = .running →
    ∃ t, exec .tick s = .next t ∧ t.cursor.val = (s.cursor.val + 1) % 9 ∧
      (s.tx = .shifting → t = { s with cursor := t.cursor }) ∧
      (s.tx = .idle →
        (∀ _h : 1 ≤ s.cursor.val, t = afterSend s t.cursor
          (gridselMask s.config (.grid ⟨8 - s.cursor.val, by omega⟩) ||| encode7 s.config (s.readCell s.cursor.val))) ∧
        (s.cursor.val = 0 → holdsSign s → t = afterSend s t.cursor
          (gridselMask s.config .sign ||| encode7 s.config (s.readCell 0))) ∧
        (s.cursor.val = 0 → ¬ holdsSign s → s.config.skipPolicy = .blankSign → t = afterSend s t.cursor
          (gridselMask s.config .sign ||| encode7 s.config (charCode s.config .space))) ∧
        (s.cursor.val = 0 → ¬ holdsSign s → s.config.skipPolicy = .noFrame → t = { s with cursor := t.cursor }))

/-- A TICK at cursor 0 over a non-sign character, with the default bit places: the frame 0x000080 with blank_sign, no frame with
no_frame; the character of cell 0 is not sent (R103). -/
def Obligations.SkippedTickSendsNothingOfCellZero : Prop :=
  ∀ s : State, s.phase = .running → s.tx = .idle → s.cursor = 0 → ¬ holdsSign s →
    (s.config = defaultConfig → exec .tick s = .next (afterSend s 1 0x000080#24)) ∧
    (s.config = { defaultConfig with skipPolicy := .noFrame } → exec .tick s = .next { s with cursor := 1 })

/-- A TICK outside RUNNING has no effect at all (R115). -/
def Obligations.TickOutsideRunningDoesNothing : Prop :=
  ∀ s : State, s.phase ≠ .running → exec .tick s = .next s

/-- A TICK that finds the transport busy discards its frame: no event, `tx` and `txf` keep the frame in flight, and the cursor
advances (R113). -/
def Obligations.BusyTransportDropsTheFrame : Prop :=
  ∀ s : State, s.phase = .running → s.tx = .shifting →
    exec .tick s = .next { s with cursor := ⟨(s.cursor.val + 1) % 9, Nat.mod_lt _ (by decide)⟩ }

/-- k served ticks move the cursor k places, so nine visit each of 0..8 once and return; if the buffer does not change and every
burst ends before the next tick, two cycles produce the same events (R114). -/
def Obligations.NineTicksCloseTheCycle : Prop :=
  ∀ s : State, s.phase = .running →
    (∀ k, ∃ t, runOps (List.replicate k .tick) s = .next t ∧ t.cursor.val = (s.cursor.val + k) % 9 ∧ t.mem = s.mem) ∧
    (s.tx = .idle → ∃ t u events, runOps cycleOps s = .next t ∧ runOps cycleOps t = .next u ∧
      t.cursor = s.cursor ∧ u.cursor = s.cursor ∧ t.trace = s.trace ++ events ∧ u.trace = t.trace ++ events)

/-- Every position is reached within eight served ticks (R168). -/
def Obligations.EveryPositionIsReached : Prop :=
  ∀ (s : State) (c : Fin 9), s.phase = .running →
    ∃ k t, k ≤ 8 ∧ runOps (List.replicate k .tick) s = .next t ∧ t.cursor = c ∧ t.mem = s.mem

/-- A TICK reads of the buffer the one cell at the cursor and writes none: on two buffers that agree there it does the same
(R32, R106: cell 9 is never at the cursor). -/
def Obligations.TickReadsOnlyTheCursorCell : Prop :=
  ∀ (s t : State) (m : Memory), Memory.read s.unlisted m s.cursor.val = s.readCell s.cursor.val →
    exec .tick s = .next t → exec .tick { s with mem := m } = .next { t with mem := m }

/-- No tick tells one non-sign character in cell 0 from another (R105). -/
def Obligations.NonSignCellZeroIsNeverShown : Prop :=
  ∀ (s t : State) (v : Byte), ¬ holdsSign s → ¬ holdsSign (s.writeCell 0 v) →
    exec .tick s = .next t → exec .tick (s.writeCell 0 v) = .next (t.writeCell 0 v)

/-- WRCH(i, v) stores v in cell i as given and changes nothing else, in every phase; an index outside 0..9 has no effect; after
WRCH(0, '-') the next TICK at cursor 0 sends 0x004080 (R116). -/
def Obligations.WrchWritesOneCell : Prop :=
  (∀ (s : State) (i : BitVec 4) (v : Byte), ∃ t, exec (.wrch i v) s = .next t ∧ t = { s with mem := t.mem } ∧
    ∀ a, t.readCell a = if a = i.toNat ∧ i.toNat ≤ 9 then v else s.readCell a) ∧
  (∀ (s : State) (i : BitVec 4) (v : Byte), 9 < i.toNat → exec (.wrch i v) s = .next s) ∧
  (∀ s : State, s.config = defaultConfig → s.phase = .running → s.tx = .idle → s.cursor = 0 →
    ∃ t u, exec (.wrch 0 0x2D#8) s = .next t ∧ exec .tick t = .next u ∧
      u.trace = s.trace ++ [.blank, .send 0x004080#24])

/-- SETDISP gives the producer ten writes in ascending order, the text cut after its tenth character or padded with ' ', and
changes nothing else (R63; that they stand in `producer` is the model's choice, log 7). -/
def Obligations.SetdispExpandsToTenWrites : Prop :=
  ∀ (s : State) (text : List Byte), ∃ ws, exec (.setdisp text) s = .next { s with producer := s.producer ++ ws } ∧
    ws.length = 10 ∧
    ∀ n < 10, ws[n]? = some ⟨BitVec.ofNat 4 n, (text[n]?).getD (charCode s.config .space)⟩

/-- The writes of a SETDISP land one cell at a time: after k turns of the producer the first k cells hold the new text and the
others what they held, so an operation between two of them sees a torn text (R117, `spec/20_memory.md` R42; the
producer's turns are the model's choice, log 7). -/
def Obligations.SetdispLandsCellByCell : Prop :=
  ∀ (s u : State) (text : List Byte) (k : Nat), s.producer = [] → s.inputs = [] → k ≤ 10 →
    exec (.setdisp text) s = .next u →
    ∃ t, runSteps k u = .next t ∧ t = { s with mem := t.mem, producer := t.producer } ∧ t.producer.length = 10 - k ∧
      ∀ a, t.readCell a = if a < k then (text[a]?).getD (charCode s.config .space) else s.readCell a

/-- START takes INIT to RUNNING and is ignored in RUNNING and STOPPED (R118). -/
def Obligations.StartOnlyLeavesInit : Prop :=
  ∀ s : State,
    (s.phase = .init → exec .start s = .next { s with phase := .running }) ∧
    (s.phase ≠ .init → exec .start s = .next s)

/-- STOP ends in STOPPED with BLANK = 1 and the transport idle, emits one `blank` and nothing else, whatever the phase; the tube
is dark, a later TXDONE does nothing, and BLANK stays 1 until RESET whatever the surroundings do (R119). -/
def Obligations.StopBlanksAndReleases : Prop :=
  ∀ s : State, ∃ t, exec .stop s = .next t ∧
    t = { s with phase := .stopped, blank := true, tx := .idle, trace := s.trace ++ [.blank] } ∧
    t.visible = 0x000000#24 ∧ exec .txdone t = .next t ∧
    ∀ ops : List Instr, (∀ i ∈ ops, isOutsideOp i = true ∧ i ≠ .reset) →
      ∃ u, runOps ops t = .next u ∧ u.phase = .stopped ∧ u.blank = true ∧ u.tx = .idle

/-- From a stopped block on, operations of the surroundings other than RESET leave it stopped and dark: only the buffer, the
producer's writes, the answers of pure functions and further `blank` events change (R119, R172). -/
def Obligations.StoppedBlockStaysDark : Prop :=
  ∀ (ops : List Instr) (s : State), s.phase = .stopped → s.tx = .idle → s.blank = true →
    (∀ i ∈ ops, isOutsideOp i = true ∧ i ≠ .reset) →
    ∃ t, runOps ops s = .next t ∧ t.visible = 0x000000#24 ∧
      ∃ n, t = { s with mem := t.mem, producer := t.producer, result := t.result,
                        trace := s.trace ++ List.replicate n .blank }

/-! ### The blanking synchronizer -/

/-- SEND(f): accepted with `blank` then `send(f)` on an idle transport; dropped, with no effect at all, on a busy one (R123). That
it can be asked for by name, that its answer is not held, and that it runs on any 24 bits are the model's (log 14, 15, 23). -/
def Obligations.SendAcceptsOrDrops : Prop :=
  ∀ (s : State) (f : Word24),
    (s.tx = .idle → exec (.sendFrame f) s = .next
      { s with blank := true, txf := f, tx := .shifting, trace := s.trace ++ [.blank, .send f] }) ∧
    (s.tx = .shifting → exec (.sendFrame f) s = .next s)

/-- TXDONE: `latch` then `unblank`, LATCH takes the frame in flight and the tube shows it (R126); no effect while the transport
is idle (R132). FREEZE is 1 afterwards. With the invariants of R27, a frame in flight means RUNNING. -/
def Obligations.TxdoneLatchesThenUnblanks : Prop :=
  ∀ s : State,
    (s.tx = .shifting → ∃ t, exec .txdone s = .next t ∧
      t = { s with latch := s.txf, freeze := true, blank := false, tx := .idle, trace := s.trace ++ [.latch, .unblank] } ∧
      t.visible = s.txf) ∧
    (s.tx = .idle → exec .txdone s = .next s) ∧
    (BlockInv s → s.tx = .shifting → s.phase = .running)

/-- `blank`: BLANK <- 1, the tube shows nothing whatever LATCH holds, and a second `blank` leaves the same levels (R124; that it can
be asked for by name is the model's choice, log 14). -/
def Obligations.BlankOutputDarkens : Prop :=
  ∀ s : State, ∃ t, exec .blank s = .next t ∧ t = { s with blank := true, trace := s.trace ++ [.blank] } ∧
    t.visible = 0x000000#24 ∧ exec .blank t = .next { t with trace := t.trace ++ [.blank] }

/-- `send(f)`, `latch` and `unblank` inside the block and at the driver chip (R125, R127, R128; that they can be asked for
by name, and that the pulse of FREEZE is inside one operation, are the model's, log 14 and log 16). -/
def Obligations.SendLatchUnblankOutputs : Prop :=
  ∀ (s : State) (f : Word24),
    exec (.send f) s = .next { s with txf := f, tx := .shifting, trace := s.trace ++ [.send f] } ∧
    exec .latch s = .next { s with latch := s.txf, freeze := true, trace := s.trace ++ [.latch] } ∧
    exec .unblank s = .next { s with blank := false, trace := s.trace ++ [.unblank] }

/-- Of the operations of the surroundings only TXDONE of a burst clears BLANK, and it emits `unblank` right after `latch`
(R128). -/
def Obligations.OnlyTxdoneUnblanks : Prop :=
  ∀ (i : Instr) (s t : State), isOutsideOp i = true → exec i s = .next t →
    (s.blank = true → t.blank = false → i = .txdone ∧ s.tx = .shifting) ∧
    (.unblank ∈ newEvents s t → i = .txdone ∧ newEvents s t = [.latch, .unblank])

/-- Of the operations of the surroundings only a TICK sends, with the transport idle and `blank` right before; a frame in flight
stays the one in flight until TXDONE, STOP or RESET (R120, R135). -/
def Obligations.OneFrameInFlight : Prop :=
  ∀ (i : Instr) (s t : State), isOutsideOp i = true → exec i s = .next t →
    (∀ f, .send f ∈ newEvents s t →
      i = .tick ∧ s.tx = .idle ∧ t.tx = .shifting ∧ t.txf = f ∧ newEvents s t = [.blank, .send f]) ∧
    (s.tx = .shifting → t.tx = .shifting → t.txf = s.txf) ∧
    (s.tx = .shifting → t.tx = .idle → i = .txdone ∨ i = .stop ∨ i = .reset)

/-- From RESET, with no STOP and no further RESET, the output trace is a prefix of (blank, send, latch, unblank) repeated, and
with `latch` left out a prefix of (blank, send, unblank) repeated (R129). -/
def Obligations.EverySendIsBracketed : Prop :=
  ∀ (ops : List Instr) (s s0 : State), exec .reset s = .next s0 →
    (∀ i ∈ ops, isOutsideOp i = true ∧ i ≠ .reset ∧ i ≠ .stop) →
    ∃ t tr, runOps ops s0 = .next t ∧ t.trace = s0.trace ++ tr ∧ Bracketed tr ∧
      ∃ fs : List Word24, tr.filter (· ≠ .latch) <+: fs.flatMap fun f => [.blank, .send f, .unblank]

/-! ### Reset, and the whole machine -/

/-- RESET, from any state: the reset values of R26, no output event, a dark tube; `txf` and LATCH are not said, and the
configuration and the environment's own fields stay; no other operation leads back to INIT (R156). That the writes the producer
has still to make and the old trace stay is the model's (log 7, DESIGN CHOICE; log 13, DEDUCED). -/
def Obligations.ResetTakesTheResetValues : Prop :=
  (∀ (i : Instr) (s t : State), s.phase ≠ .init → exec i s = .next t → t.phase = .init → i = .reset) ∧
  ∀ s : State, ∃ t, exec .reset s = .next t ∧
    t = { s with cursor := 0, mem := t.mem, phase := .init, tx := .idle, txf := t.txf, blank := true, freeze := true,
                 latch := t.latch, draws := t.draws } ∧
    (∀ a, t.readCell a = s.config.resetChar) ∧ (s.config = defaultConfig → ∀ a, t.readCell a = 0x20#8) ∧
    t.visible = 0x000000#24

/-- The state after reset holds the values of R26 (`txf` and LATCH are the model's choice, log 3 and log 4, and not said). -/
def Obligations.ResetStateHoldsTheResetValues : Prop :=
  State.reset.cursor = 0 ∧ (∀ a < 10, State.reset.readCell a = 0x20#8) ∧ State.reset.phase = .init ∧
    State.reset.tx = .idle ∧ State.reset.blank = true ∧ State.reset.freeze = true ∧ State.reset.visible = 0x000000#24

/-- No operation raises an exception: every operation answers a next state in every state, so does the step that performs it,
and a step never faults (R136). -/
def Obligations.NoOperationRaises : Prop :=
  (∀ (i : Instr) (s : State), ∃ t, exec i s = .next t) ∧
  (∀ (s : State) (w : OpWord) (rest : List Request) (i : Instr), s.inputs = .word w :: rest → decode s.config w = .instr i →
    ∃ t, step s = .next t) ∧
  (∀ (s : State) (x : Fault), step s ≠ .fault x)

/-- The pure functions read the state at most and write none of it: only the model's answer field changes (R16). -/
def Obligations.PureFunctionsWriteNoState : Prop :=
  ∀ (i : Instr) (s : State), isPure i = true → ∃ r, exec i s = .next { s with result := r }

/-- Only TICK and RESET write the cursor, only WRCH and RESET the buffer, and WRCH does not read the cursor (R15). The
producer's list is the model's, and that of the operations only SETDISP changes it is the model's choice (log 7). -/
def Obligations.WhoMayWriteWhat : Prop :=
  (∀ (i : Instr) (s t : State), exec i s = .next t →
    (t.cursor ≠ s.cursor → i = .tick ∨ i = .reset) ∧
    (t.mem ≠ s.mem → i = .reset ∨ ∃ a v, i = .wrch a v) ∧
    (t.producer ≠ s.producer → ∃ text, i = .setdisp text)) ∧
  (∀ (s t : State) (a : BitVec 4) (v : Byte) (c : Fin 9), exec (.wrch a v) s = .next t →
    exec (.wrch a v) { s with cursor := c } = .next { t with cursor := c })

/-- No step writes the configuration (R16). -/
def Obligations.ConfigurationIsNeverWritten : Prop :=
  ∀ s t : State, step s = .next t → t.config = s.config

/-- Every step keeps the canonical form of the buffer, whatever operations are to come (the form is the model's, log 17). -/
def Obligations.EveryStepKeepsCellsCanonical : Prop :=
  ∀ s t : State, Memory.wf s.unlisted s.mem → step s = .next t → Memory.wf t.unlisted t.mem

/-- Two canonical buffers that read the same everywhere are the same data (the form is the model's, log 17). -/
def Obligations.CanonicalCellsAreDetermined : Prop :=
  ∀ (d : Byte) (m n : Memory), Memory.wf d m → Memory.wf d n → (∀ a, Memory.read d m a = Memory.read d n a) → m = n

/-- Every step keeps the invariants of R27, with only operations of the surroundings to come (log 14). -/
def Obligations.EveryStepKeepsTheBlockInvariant : Prop :=
  ∀ s t : State, BlockInv s → step s = .next t → BlockInv t

/-- The invariants of R27 hold after reset. -/
def Obligations.BlockInvariantHoldsAtReset : Prop := BlockInv State.reset

/-- After any number of steps from a state of the invariant, what is visible is nothing, or a well-formed frame, so one selector,
that was sent and latched (R130, R131). -/
def Obligations.NothingGarbledIsEverVisible : Prop :=
  ∀ (n : Nat) (s t : State), BlockInv s → runSteps n s = .next t →
    t.visible = 0x000000#24 ∨
    (wellFormedFrame t.config t.visible = true ∧ oneBit (t.visible &&& gridMask t.config) = true ∧
      (traceFrames t.trace).2 = some t.visible)

/-- The writes of the producer take effect in the order it issues them: a WRCH after a SETDISP waits for the ten writes of the
SETDISP and for any that were still to come before, and its cell ends with its character, every other cell with the text (R41;
the producer's list and the layout of the two words are the model's, log 7, log 9, log 10). -/
def Obligations.ProducerWritesKeepTheirOrder : Prop :=
  ∀ (s : State) (rest : List Request) (text : List Byte) (i : BitVec 4) (v : Byte),
    s.inputs = .word ⟨.named .setdisp, text⟩ :: .word ⟨.event6, [0x01#8, i.setWidth 8, v]⟩ :: rest →
    ∃ t, runSteps (s.producer.length + 12) s = .next t ∧ t = { s with inputs := rest, producer := [], mem := t.mem } ∧
      ∀ a, t.readCell a = if a = i.toNat ∧ a ≤ 9 then v
        else if a ≤ 9 then (text[a]?).getD (charCode s.config .space) else s.readCell a
end

