-- ==== Sys2Proof/Laws/Decode.lean ====
section
/-! SUPPORT. What each piece of the decoder can have done when it answers an instruction. -/

namespace Sys2Proof.Laws

variable {cfg : Config} {i : Instr} {bs : List Byte}

theorem noBytes_instr {j : Instr} (h : noBytes bs j = .instr i) : bs = [] ∧ i = j := by
  unfold noBytes at h
  split at h
  · exact ⟨rfl, by injection h with h; exact h.symm⟩
  · cases h

theorem oneByte_instr {f : Byte → Decoded} (h : oneByte bs f = .instr i) : ∃ b, bs = [b] ∧ f b = .instr i := by
  unfold oneByte at h
  split at h
  · exact ⟨_, rfl, h⟩
  · cases h

theorem threeBytes_instr {f : Byte → Byte → Byte → Decoded} (h : threeBytes bs f = .instr i) :
    ∃ b0 b1 b2, bs = [b0, b1, b2] ∧ f b0 b1 b2 = .instr i := by
  unfold threeBytes at h
  split at h
  · exact ⟨_, _, _, rfl, h⟩
  · cases h

theorem sixBytes_instr {f : Byte → Byte → Byte → Byte → Byte → Byte → Decoded} (h : sixBytes bs f = .instr i) :
    ∃ b0 b1 b2 b3 b4 b5, bs = [b0, b1, b2, b3, b4, b5] ∧ f b0 b1 b2 b3 b4 b5 = .instr i := by
  unfold sixBytes at h
  split at h
  · exact ⟨_, _, _, _, _, _, rfl, h⟩
  · cases h

/-- A Character decodes to the row of the recognised character it is, or to the fallback row. -/
theorem decodeChar_instr {c : Byte} (h : decodeChar cfg c = .instr i) :
    (∃ ch, Machine.recognise cfg c = some ch ∧ i = charRow ch) ∨
    (Machine.recognise cfg c = none ∧ i = .encFallback c) := by
  unfold decodeChar at h
  split at h <;> injection h with h
  · exact .inl ⟨_, ‹_›, h.symm⟩
  · exact .inr ⟨‹_›, h.symm⟩

theorem decodeSelector_instr {m : Word24} (h : decodeSelector cfg m = .instr i) :
    ∃ g, selectorOfMask cfg m = some g ∧ i = selectorRow g := by
  unfold decodeSelector at h
  split at h
  · exact ⟨_, ‹_›, by injection h with h; exact h.symm⟩
  · cases h

theorem decodeFrame_instr {f : Word24} (h : decodeFrame cfg f = .instr i) :
    ∃ g, selectorOfMask cfg (f &&& ~~~Machine.segmentMask) = some g ∧ i = frameRow (f.extractLsb' 8 8) g := by
  unfold decodeFrame at h
  split at h
  · exact ⟨_, ‹_›, by injection h with h; exact h.symm⟩
  · cases h

theorem withFrame_instr {op : Word24 → Instr} {f : Word24} (h : withFrame cfg op f = .instr i) :
    Machine.wellFormedFrame cfg f = true ∧ i = op f := by
  unfold withFrame at h
  split at h
  · exact ⟨‹_›, by injection h with h; exact h.symm⟩
  · cases h

theorem decodeIndex_instr {k : Byte} (h : decodeIndex k = .instr i) :
    ∃ g, selectorOfIndex k = some g ∧ i = .gridsel g := by
  unfold decodeIndex at h
  split at h
  · exact ⟨_, ‹_›, by injection h with h; exact h.symm⟩
  · cases h

theorem decodeFrameOperands_instr {s0 s1 s2 g0 g1 g2 : Byte}
    (h : decodeFrameOperands cfg s0 s1 s2 g0 g1 g2 = .instr i) :
    ∃ g, selectorOfMask cfg (wordOf g0 g1 g2) = some g ∧ s0 = 0#8 ∧ s2 = 0#8 ∧ i = .frame g s1 := by
  unfold decodeFrameOperands at h
  split at h
  · split at h
    · next hs => exact ⟨_, ‹_›, hs.1, hs.2, by injection h with h; exact h.symm⟩
    · cases h
  · cases h

theorem decodeDigitCursor_instr {c : Byte} (h : decodeDigitCursor c = .instr i) :
    ∃ j : Fin 8, c.toNat = j.val + 1 ∧ i = .selectDigit j := by
  unfold decodeDigitCursor at h
  split at h
  · next hc =>
    refine ⟨⟨c.toNat - 1, by omega⟩, ?_, by injection h with h; exact h.symm⟩
    simp only
    omega
  · cases h

theorem decodeZeroCursor_instr {c : Byte} {j : Instr} (h : decodeZeroCursor j c = .instr i) : c = 0#8 ∧ i = j := by
  unfold decodeZeroCursor at h
  split at h
  · exact ⟨‹_›, by injection h with h; exact h.symm⟩
  · cases h

/-- A selector found for a mask has that mask. -/
theorem selectorOfMask_some {m : Word24} {g : GridSel} (h : selectorOfMask cfg m = some g) :
    Machine.gridselMask cfg g = m := by
  have := List.find?_some h
  simpa using this

/-- A selector found for an index has that index. -/
theorem selectorOfIndex_some {k : Byte} {g : GridSel} (h : selectorOfIndex k = some g) : selectorIndex g = k := by
  have := List.find?_some h
  simpa using this

/-- A character recognised by a code has that code. -/
theorem recognise_some {c : Byte} {ch : Chr} (h : Machine.recognise cfg c = some ch) : Machine.charCode cfg ch = c := by
  have := List.find?_some h
  simpa using this

end Sys2Proof.Laws
end

