-- ==== Sys2Proof/Laws/State.lean ====
section
/-! SUPPORT. What each named update of the state leaves in each field: one lemma per field per update. -/

namespace Sys2Proof.Laws

open Sys2Proof.Machine

variable (s : State)

@[simp] theorem deliver_config (r : Result) : (s.deliver r).config = s.config := rfl
@[simp] theorem deliver_cursor (r : Result) : (s.deliver r).cursor = s.cursor := rfl
@[simp] theorem deliver_mem (r : Result) : (s.deliver r).mem = s.mem := rfl
@[simp] theorem deliver_phase (r : Result) : (s.deliver r).phase = s.phase := rfl
@[simp] theorem deliver_tx (r : Result) : (s.deliver r).tx = s.tx := rfl
@[simp] theorem deliver_txf (r : Result) : (s.deliver r).txf = s.txf := rfl
@[simp] theorem deliver_blank (r : Result) : (s.deliver r).blank = s.blank := rfl
@[simp] theorem deliver_freeze (r : Result) : (s.deliver r).freeze = s.freeze := rfl
@[simp] theorem deliver_latch (r : Result) : (s.deliver r).latch = s.latch := rfl
@[simp] theorem deliver_trace (r : Result) : (s.deliver r).trace = s.trace := rfl
@[simp] theorem deliver_inputs (r : Result) : (s.deliver r).inputs = s.inputs := rfl
@[simp] theorem deliver_producer (r : Result) : (s.deliver r).producer = s.producer := rfl
@[simp] theorem deliver_result (r : Result) : (s.deliver r).result = r := rfl
@[simp] theorem deliver_draws (r : Result) : (s.deliver r).draws = s.draws := rfl

@[simp] theorem writeCell_config (a : Nat) (v : Byte) : (s.writeCell a v).config = s.config := rfl
@[simp] theorem writeCell_cursor (a : Nat) (v : Byte) : (s.writeCell a v).cursor = s.cursor := rfl
@[simp] theorem writeCell_mem (a : Nat) (v : Byte) : (s.writeCell a v).mem = Memory.write s.unlisted a v s.mem := rfl
@[simp] theorem writeCell_phase (a : Nat) (v : Byte) : (s.writeCell a v).phase = s.phase := rfl
@[simp] theorem writeCell_tx (a : Nat) (v : Byte) : (s.writeCell a v).tx = s.tx := rfl
@[simp] theorem writeCell_txf (a : Nat) (v : Byte) : (s.writeCell a v).txf = s.txf := rfl
@[simp] theorem writeCell_blank (a : Nat) (v : Byte) : (s.writeCell a v).blank = s.blank := rfl
@[simp] theorem writeCell_freeze (a : Nat) (v : Byte) : (s.writeCell a v).freeze = s.freeze := rfl
@[simp] theorem writeCell_latch (a : Nat) (v : Byte) : (s.writeCell a v).latch = s.latch := rfl
@[simp] theorem writeCell_trace (a : Nat) (v : Byte) : (s.writeCell a v).trace = s.trace := rfl
@[simp] theorem writeCell_inputs (a : Nat) (v : Byte) : (s.writeCell a v).inputs = s.inputs := rfl
@[simp] theorem writeCell_producer (a : Nat) (v : Byte) : (s.writeCell a v).producer = s.producer := rfl
@[simp] theorem writeCell_result (a : Nat) (v : Byte) : (s.writeCell a v).result = s.result := rfl
@[simp] theorem writeCell_draws (a : Nat) (v : Byte) : (s.writeCell a v).draws = s.draws := rfl

@[simp] theorem emit_config (e : Event) : (s.emit e).config = s.config := rfl
@[simp] theorem emit_cursor (e : Event) : (s.emit e).cursor = s.cursor := rfl
@[simp] theorem emit_mem (e : Event) : (s.emit e).mem = s.mem := rfl
@[simp] theorem emit_phase (e : Event) : (s.emit e).phase = s.phase := rfl
@[simp] theorem emit_tx (e : Event) : (s.emit e).tx = s.tx := rfl
@[simp] theorem emit_txf (e : Event) : (s.emit e).txf = s.txf := rfl
@[simp] theorem emit_blank (e : Event) : (s.emit e).blank = s.blank := rfl
@[simp] theorem emit_freeze (e : Event) : (s.emit e).freeze = s.freeze := rfl
@[simp] theorem emit_latch (e : Event) : (s.emit e).latch = s.latch := rfl
@[simp] theorem emit_trace (e : Event) : (s.emit e).trace = s.trace ++ [e] := rfl
@[simp] theorem emit_inputs (e : Event) : (s.emit e).inputs = s.inputs := rfl
@[simp] theorem emit_producer (e : Event) : (s.emit e).producer = s.producer := rfl
@[simp] theorem emit_result (e : Event) : (s.emit e).result = s.result := rfl
@[simp] theorem emit_draws (e : Event) : (s.emit e).draws = s.draws := rfl

@[simp] theorem blankOutput_config : (blankOutput s).config = s.config := rfl
@[simp] theorem blankOutput_cursor : (blankOutput s).cursor = s.cursor := rfl
@[simp] theorem blankOutput_mem : (blankOutput s).mem = s.mem := rfl
@[simp] theorem blankOutput_phase : (blankOutput s).phase = s.phase := rfl
@[simp] theorem blankOutput_tx : (blankOutput s).tx = s.tx := rfl
@[simp] theorem blankOutput_txf : (blankOutput s).txf = s.txf := rfl
@[simp] theorem blankOutput_blank : (blankOutput s).blank = true := rfl
@[simp] theorem blankOutput_freeze : (blankOutput s).freeze = s.freeze := rfl
@[simp] theorem blankOutput_latch : (blankOutput s).latch = s.latch := rfl
@[simp] theorem blankOutput_trace : (blankOutput s).trace = s.trace ++ [.blank] := rfl
@[simp] theorem blankOutput_inputs : (blankOutput s).inputs = s.inputs := rfl
@[simp] theorem blankOutput_producer : (blankOutput s).producer = s.producer := rfl
@[simp] theorem blankOutput_result : (blankOutput s).result = s.result := rfl
@[simp] theorem blankOutput_draws : (blankOutput s).draws = s.draws := rfl

@[simp] theorem sendOutput_config (f : Word24) : (sendOutput f s).config = s.config := rfl
@[simp] theorem sendOutput_cursor (f : Word24) : (sendOutput f s).cursor = s.cursor := rfl
@[simp] theorem sendOutput_mem (f : Word24) : (sendOutput f s).mem = s.mem := rfl
@[simp] theorem sendOutput_phase (f : Word24) : (sendOutput f s).phase = s.phase := rfl
@[simp] theorem sendOutput_tx (f : Word24) : (sendOutput f s).tx = .shifting := rfl
@[simp] theorem sendOutput_txf (f : Word24) : (sendOutput f s).txf = f := rfl
@[simp] theorem sendOutput_blank (f : Word24) : (sendOutput f s).blank = s.blank := rfl
@[simp] theorem sendOutput_freeze (f : Word24) : (sendOutput f s).freeze = s.freeze := rfl
@[simp] theorem sendOutput_latch (f : Word24) : (sendOutput f s).latch = s.latch := rfl
@[simp] theorem sendOutput_trace (f : Word24) : (sendOutput f s).trace = s.trace ++ [.send f] := rfl
@[simp] theorem sendOutput_inputs (f : Word24) : (sendOutput f s).inputs = s.inputs := rfl
@[simp] theorem sendOutput_producer (f : Word24) : (sendOutput f s).producer = s.producer := rfl
@[simp] theorem sendOutput_result (f : Word24) : (sendOutput f s).result = s.result := rfl
@[simp] theorem sendOutput_draws (f : Word24) : (sendOutput f s).draws = s.draws := rfl

@[simp] theorem latchOutput_config : (latchOutput s).config = s.config := rfl
@[simp] theorem latchOutput_cursor : (latchOutput s).cursor = s.cursor := rfl
@[simp] theorem latchOutput_mem : (latchOutput s).mem = s.mem := rfl
@[simp] theorem latchOutput_phase : (latchOutput s).phase = s.phase := rfl
@[simp] theorem latchOutput_tx : (latchOutput s).tx = s.tx := rfl
@[simp] theorem latchOutput_txf : (latchOutput s).txf = s.txf := rfl
@[simp] theorem latchOutput_blank : (latchOutput s).blank = s.blank := rfl
@[simp] theorem latchOutput_freeze : (latchOutput s).freeze = true := rfl
@[simp] theorem latchOutput_latch : (latchOutput s).latch = s.txf := rfl
@[simp] theorem latchOutput_trace : (latchOutput s).trace = s.trace ++ [.latch] := rfl
@[simp] theorem latchOutput_inputs : (latchOutput s).inputs = s.inputs := rfl
@[simp] theorem latchOutput_producer : (latchOutput s).producer = s.producer := rfl
@[simp] theorem latchOutput_result : (latchOutput s).result = s.result := rfl
@[simp] theorem latchOutput_draws : (latchOutput s).draws = s.draws := rfl

@[simp] theorem unblankOutput_config : (unblankOutput s).config = s.config := rfl
@[simp] theorem unblankOutput_cursor : (unblankOutput s).cursor = s.cursor := rfl
@[simp] theorem unblankOutput_mem : (unblankOutput s).mem = s.mem := rfl
@[simp] theorem unblankOutput_phase : (unblankOutput s).phase = s.phase := rfl
@[simp] theorem unblankOutput_tx : (unblankOutput s).tx = s.tx := rfl
@[simp] theorem unblankOutput_txf : (unblankOutput s).txf = s.txf := rfl
@[simp] theorem unblankOutput_blank : (unblankOutput s).blank = false := rfl
@[simp] theorem unblankOutput_freeze : (unblankOutput s).freeze = s.freeze := rfl
@[simp] theorem unblankOutput_latch : (unblankOutput s).latch = s.latch := rfl
@[simp] theorem unblankOutput_trace : (unblankOutput s).trace = s.trace ++ [.unblank] := rfl
@[simp] theorem unblankOutput_inputs : (unblankOutput s).inputs = s.inputs := rfl
@[simp] theorem unblankOutput_producer : (unblankOutput s).producer = s.producer := rfl
@[simp] theorem unblankOutput_result : (unblankOutput s).result = s.result := rfl
@[simp] theorem unblankOutput_draws : (unblankOutput s).draws = s.draws := rfl

/-- The reset content of an unlisted cell is configuration, so an update that keeps `config` keeps it. -/
theorem unlisted_eq : s.unlisted = s.config.resetChar := rfl

end Sys2Proof.Laws
end

