-- ==== Sys2Proof/Laws/Memory.lean ====
section
/-! SUPPORT. The laws of the DisplayBuffer: a read after a write, the canonical form under every memory operation, and equal
reads making equal memories. -/

namespace Sys2Proof.Laws

open Sys2Proof.Machine

variable {d v : Byte} {a b : Nat} {m : Memory}

theorem read_erase (h : b ≠ a) : Memory.read d (m.erase a) b = Memory.read d m b := by
  induction m with
  | nil => rfl
  | cons c m ih =>
    obtain ⟨k, w⟩ := c
    simp only [Memory.erase] at ih
    by_cases hk : k = a
    · subst hk
      simp [Memory.erase, Memory.read, ih, Ne.symm h]
    · by_cases hb : k = b
      · subst hb
        simp [Memory.erase, Memory.read, hk]
      · simp [Memory.erase, Memory.read, hk, hb, ih]

theorem read_erase_self : Memory.read d (m.erase a) a = d := by
  induction m with
  | nil => rfl
  | cons c m ih =>
    obtain ⟨k, w⟩ := c
    simp only [Memory.erase] at ih
    by_cases hk : k = a <;> simp [Memory.erase, Memory.read, hk, ih]

theorem read_insert (hm : ∀ c ∈ m, c.1 ≠ a) :
    Memory.read d (m.insert a v) b = if b = a then v else Memory.read d m b := by
  induction m with
  | nil => simp [Memory.insert, Memory.read, eq_comm]
  | cons c m ih =>
    obtain ⟨k, w⟩ := c
    simp only [List.mem_cons, forall_eq_or_imp] at hm
    by_cases hlt : a < k
    · simp [Memory.insert, Memory.read, hlt, eq_comm]
    · by_cases hk : k = b
      · subst hk
        simp [Memory.insert, Memory.read, hlt, hm.1]
      · simp [Memory.insert, Memory.read, hlt, hk, ih hm.2]

theorem mem_erase {c : Host.Cell} : c ∈ m.erase a ↔ c ∈ m ∧ c.1 ≠ a := by
  simp [Memory.erase]

theorem mem_insert {c : Host.Cell} : c ∈ m.insert a v ↔ c = (a, v) ∨ c ∈ m := by
  induction m with
  | nil => simp [Memory.insert]
  | cons x m ih =>
    obtain ⟨k, w⟩ := x
    by_cases hlt : a < k
    · simp [Memory.insert, hlt]
    · simp [Memory.insert, hlt, ih]
      tauto

/-- A read after a write: the cell written holds the value, every other cell is as before (R39). -/
theorem read_write :
    Memory.read d (Memory.write d a v m) b = if b = a then v else Memory.read d m b := by
  unfold Memory.write
  split
  · next h =>
    split
    · next hb => subst hb; rw [read_erase_self, h]
    · next hb => exact read_erase hb
  · rw [read_insert fun c hc => (mem_erase.mp hc).2]
    split
    · rfl
    · next hb => exact read_erase hb

theorem wf_erase (h : Memory.wf d m) : Memory.wf d (m.erase a) :=
  ⟨h.1.filter _, fun c hc => h.2 c (mem_erase.mp hc).1⟩

theorem rising_insert (h : m.Pairwise fun x y => x.1 < y.1) (hm : ∀ c ∈ m, c.1 ≠ a) :
    (m.insert a v).Pairwise fun x y => x.1 < y.1 := by
  induction m with
  | nil => simp [Memory.insert]
  | cons x m ih =>
    obtain ⟨k, w⟩ := x
    simp only [List.pairwise_cons, List.mem_cons, forall_eq_or_imp] at h hm
    by_cases hlt : a < k
    · simp only [Memory.insert, hlt, if_true, List.pairwise_cons, List.mem_cons, forall_eq_or_imp]
      exact ⟨⟨trivial, fun c hc => lt_trans hlt (h.1 c hc)⟩, h.1, h.2⟩
    · simp only [Memory.insert, hlt, if_false, List.pairwise_cons]
      refine ⟨fun c hc => ?_, ih h.2 hm.2⟩
      rcases mem_insert.mp hc with rfl | hc
      · exact lt_of_le_of_ne (not_lt.mp hlt) hm.1
      · exact h.1 c hc

/-- A write to a cell of the buffer keeps the canonical form. -/
theorem wf_write (h : Memory.wf d m) (ha : a < bufLen) : Memory.wf d (Memory.write d a v m) := by
  unfold Memory.write
  split
  · exact wf_erase h
  · next hv =>
    refine ⟨rising_insert (wf_erase h).1 fun c hc => (mem_erase.mp hc).2, fun c hc => ?_⟩
    rcases mem_insert.mp hc with rfl | hc
    · exact ⟨hv, ha⟩
    · exact (wf_erase (a := a) h).2 c hc

theorem wf_nil : Memory.wf d [] := by simp [Memory.wf]

theorem wf_reset : Memory.wf State.reset.unlisted State.reset.mem := wf_nil

/-- Reading a cell of the state after a write to it or to another. -/
theorem readCell_writeCell (s : State) :
    (s.writeCell a v).readCell b = if b = a then v else s.readCell b := read_write

end Sys2Proof.Laws
end

