-- ==== Sys2Proof/Laws/Ops.lean ====
section
/-! SUPPORT. One lemma per shared operation, saying once everything it can do. -/

namespace Sys2Proof.Laws

open Sys2Proof.Machine

variable {s t : State} {f : Word24}

/-- SEND: accepted on an idle transport, dropped on a busy one (R123). -/
theorem dispatch_cases (f : Word24) (s : State) :
    (s.tx = .idle ∧ dispatch f s =
      { s with blank := true, txf := f, tx := .shifting, trace := s.trace ++ [.blank, .send f] }) ∨
    (s.tx = .shifting ∧ dispatch f s = s) := by
  cases h : s.tx
  · left
    simp [dispatch, isIdle, h, sendOutput, blankOutput, State.emit]
  · right
    simp [dispatch, isIdle, h]

/-- The end of a burst, and a TXDONE with none in flight (R126, R132). -/
theorem finishBurst_cases (s : State) :
    (s.tx = .shifting ∧ finishBurst s =
      { s with latch := s.txf, freeze := true, blank := false, tx := .idle, trace := s.trace ++ [.latch, .unblank] }) ∨
    (s.tx = .idle ∧ finishBurst s = s) := by
  cases h : s.tx
  · right
    simp [finishBurst, isIdle, h]
  · left
    simp [finishBurst, isIdle, h, latchOutput, unblankOutput, unfreeze, refreeze, State.emit]

/-- SELECT at cursor 0: sign character, blank sign frame, or no frame (R102, R103). -/
theorem selectAt_zero (s : State) (c : Fin 9) (h : c.val = 0) : selectAt s c = selectAtZero s := by
  simp [selectAt, h]

/-- SELECT at a cursor 1..8 (R101). -/
theorem selectAt_digit (s : State) (c : Fin 9) (h : c.val ≠ 0) :
    selectAt s c = some (gridTable ⟨c.val - 1, by omega⟩, s.readCell c.val) := by
  have hc : c.val - 1 + 1 = c.val := by omega
  simp [selectAt, h, selectDigitAt, hc]

/-- The grid table in one formula (R104). -/
theorem gridTable_eq (j : Fin 8) : gridTable j = .grid ⟨7 - j.val, by omega⟩ := by
  revert j; decide

/-- A served tick: the cursor advances, and at most one frame is dispatched (R108). -/
theorem serveTick_cases (s : State) :
    (∃ g ch, selectAt s s.cursor = some (g, ch) ∧
      serveTick s = { dispatch (charFrame s.config g ch) s with
        cursor := ⟨(s.cursor.val + 1) % 9, Nat.mod_lt _ (by decide)⟩ }) ∨
    (selectAt s s.cursor = none ∧
      serveTick s = { s with cursor := ⟨(s.cursor.val + 1) % 9, Nat.mod_lt _ (by decide)⟩ }) := by
  cases h : selectAt s s.cursor with
  | none => exact .inr ⟨rfl, by simp [serveTick, h]⟩
  | some p => exact .inl ⟨p.1, p.2, by simp, by simp [serveTick, h]⟩

/-- The producer's turn: nothing, or the next WRCH (R63). -/
theorem producerTurn_cases (s : State) :
    (s.producer = [] ∧ producerTurn s = .next s) ∨
    (∃ w ws, s.producer = w :: ws ∧ producerTurn s = execWrch w.index w.char { s with producer := ws }) := by
  cases h : s.producer with
  | nil => exact .inl ⟨rfl, by simp [producerTurn, h]⟩
  | cons w ws => exact .inr ⟨w, ws, rfl, by simp [producerTurn, h]⟩

/-- An operation waits exactly when it is a WRCH and the producer has writes to make (R41). -/
theorem waitsForProducer_iff (i : Instr) (s : State) :
    waitsForProducer i s = true ↔ (∃ a v, i = .wrch a v) ∧ s.producer ≠ [] := by
  cases i <;> simp [waitsForProducer, isProducerWrite]

/-- The transport is idle exactly when one of its TX_SLOTS slots is free (D9). -/
theorem isIdle_iff_slot_free (s : State) : isIdle s = true ↔ framesHeld s < s.config.txSlots.frames := by
  cases s.config.txSlots; cases h : s.tx <;> simp [isIdle, framesHeld, TxSlots.frames, h]

/-- Everything a step that answers a next state can have done. -/
theorem step_cases (h : step s = .next t) :
    ((s.inputs = [] ∨ ∃ w rest i, s.inputs = .word w :: rest ∧ decode s.config w = .instr i ∧ waitsForProducer i s = true) ∧
      producerTurn s = .next t) ∨
    (∃ rest, s.inputs = .producerTurn :: rest ∧ producerTurn { s with inputs := rest } = .next t) ∨
    (∃ w rest i, s.inputs = .word w :: rest ∧ decode s.config w = .instr i ∧ waitsForProducer i s = false ∧
      exec i { s with inputs := restOfSample w ++ rest } = .next t) ∨
    (∃ w rest, s.inputs = .word w :: rest ∧ decode s.config w = .rejected .noEvent ∧
      t = { s with inputs := rest }) := by
  unfold step at h
  split at h
  · next hi => exact .inl ⟨.inl hi, h⟩
  · next rest hi => exact .inr (.inl ⟨rest, hi, h⟩)
  · next w rest hi =>
    split at h
    · next i hd =>
      split at h
      · next hw => exact .inl ⟨.inr ⟨w, rest, i, hi, hd, hw⟩, h⟩
      · next hw => exact .inr (.inr (.inl ⟨w, rest, i, hi, hd, by simpa using hw, h⟩))
    · next hd =>
      cases h
      exact .inr (.inr (.inr ⟨w, rest, hi, hd, rfl⟩))
    · cases h

end Sys2Proof.Laws
end

