-- ==== Sys2Proof/Laws/PerInstr.lean ====
section
/-! SUPPORT. Facts about each instruction as syntax: every word has the one length of its format (`spec/30_encoding.md` R61). -/

namespace Sys2Proof.Laws.EncodedLength

/-- The number of bytes of an instruction's word. -/
def bytesOf : Instr → Nat
  | .encDigit0 => 1
  | .encDigit1 => 1
  | .encDigit2 => 1
  | .encDigit3 => 1
  | .encDigit4 => 1
  | .encDigit5 => 1
  | .encDigit6 => 1
  | .encDigit7 => 1
  | .encDigit8 => 1
  | .encDigit9 => 1
  | .encUpperA => 1
  | .encUpperB => 1
  | .encUpperC => 1
  | .encUpperD => 1
  | .encUpperE => 1
  | .encUpperF => 1
  | .encLowerA => 1
  | .encLowerB => 1
  | .encLowerC => 1
  | .encLowerD => 1
  | .encLowerE => 1
  | .encLowerF => 1
  | .encPoint => 1
  | .encStar => 1
  | .encMinus => 1
  | .encSpace => 1
  | .encFallback _ => 1
  | .gridselGrid0 => 3
  | .gridselGrid1 => 3
  | .gridselGrid2 => 3
  | .gridselGrid3 => 3
  | .gridselGrid4 => 3
  | .gridselGrid5 => 3
  | .gridselGrid6 => 3
  | .gridselGrid7 => 3
  | .gridselSign => 3
  | .frameGrid _ _ => 3
  | .frameSign _ => 3
  | .ser _ => 3
  | .enc _ => 1
  | .gridsel _ => 1
  | .frame _ _ => 6
  | .selectDigit _ => 1
  | .selectSign => 1
  | .selectSkip => 1
  | .reset => 3
  | .stop => 3
  | .start => 3
  | .txdone => 3
  | .tick => 3
  | .wrch _ _ => 3
  | .setdisp text => text.length
  | .sendFrame _ => 3
  | .blank => 0
  | .send _ => 3
  | .latch => 0
  | .unblank => 0

/-- The word the encoder writes has the length of the instruction's format. -/
def Statement (i : Instr) : Prop := ∀ cfg, (encode cfg i).bytes.length = bytesOf i

theorem encDigit0 : Statement .encDigit0 := fun _ => rfl
theorem encDigit1 : Statement .encDigit1 := fun _ => rfl
theorem encDigit2 : Statement .encDigit2 := fun _ => rfl
theorem encDigit3 : Statement .encDigit3 := fun _ => rfl
theorem encDigit4 : Statement .encDigit4 := fun _ => rfl
theorem encDigit5 : Statement .encDigit5 := fun _ => rfl
theorem encDigit6 : Statement .encDigit6 := fun _ => rfl
theorem encDigit7 : Statement .encDigit7 := fun _ => rfl
theorem encDigit8 : Statement .encDigit8 := fun _ => rfl
theorem encDigit9 : Statement .encDigit9 := fun _ => rfl
theorem encUpperA : Statement .encUpperA := fun _ => rfl
theorem encUpperB : Statement .encUpperB := fun _ => rfl
theorem encUpperC : Statement .encUpperC := fun _ => rfl
theorem encUpperD : Statement .encUpperD := fun _ => rfl
theorem encUpperE : Statement .encUpperE := fun _ => rfl
theorem encUpperF : Statement .encUpperF := fun _ => rfl
theorem encLowerA : Statement .encLowerA := fun _ => rfl
theorem encLowerB : Statement .encLowerB := fun _ => rfl
theorem encLowerC : Statement .encLowerC := fun _ => rfl
theorem encLowerD : Statement .encLowerD := fun _ => rfl
theorem encLowerE : Statement .encLowerE := fun _ => rfl
theorem encLowerF : Statement .encLowerF := fun _ => rfl
theorem encPoint : Statement .encPoint := fun _ => rfl
theorem encStar : Statement .encStar := fun _ => rfl
theorem encMinus : Statement .encMinus := fun _ => rfl
theorem encSpace : Statement .encSpace := fun _ => rfl
theorem encFallback (c : Byte) : Statement (.encFallback c) := fun _ => rfl
theorem gridselGrid0 : Statement .gridselGrid0 := fun _ => rfl
theorem gridselGrid1 : Statement .gridselGrid1 := fun _ => rfl
theorem gridselGrid2 : Statement .gridselGrid2 := fun _ => rfl
theorem gridselGrid3 : Statement .gridselGrid3 := fun _ => rfl
theorem gridselGrid4 : Statement .gridselGrid4 := fun _ => rfl
theorem gridselGrid5 : Statement .gridselGrid5 := fun _ => rfl
theorem gridselGrid6 : Statement .gridselGrid6 := fun _ => rfl
theorem gridselGrid7 : Statement .gridselGrid7 := fun _ => rfl
theorem gridselSign : Statement .gridselSign := fun _ => rfl
theorem frameGrid (k : Fin 8) (segs : Byte) : Statement (.frameGrid k segs) := fun _ => rfl
theorem frameSign (segs : Byte) : Statement (.frameSign segs) := fun _ => rfl
theorem ser (f : Word24) : Statement (.ser f) := fun _ => rfl
theorem enc (c : Byte) : Statement (.enc c) := fun _ => rfl
theorem gridsel (g : GridSel) : Statement (.gridsel g) := fun _ => rfl
theorem frame (g : GridSel) (segs : Byte) : Statement (.frame g segs) := fun _ => rfl
theorem selectDigit (j : Fin 8) : Statement (.selectDigit j) := fun _ => rfl
theorem selectSign : Statement .selectSign := fun _ => rfl
theorem selectSkip : Statement .selectSkip := fun _ => rfl
theorem reset : Statement .reset := fun _ => rfl
theorem stop : Statement .stop := fun _ => rfl
theorem start : Statement .start := fun _ => rfl
theorem txdone : Statement .txdone := fun _ => rfl
theorem tick : Statement .tick := fun _ => rfl
theorem wrch (i : BitVec 4) (v : Byte) : Statement (.wrch i v) := fun _ => rfl
theorem setdisp (text : List Byte) : Statement (.setdisp text) := fun _ => rfl
theorem sendFrame (f : Word24) : Statement (.sendFrame f) := fun _ => rfl
theorem blank : Statement .blank := fun _ => rfl
theorem send (f : Word24) : Statement (.send f) := fun _ => rfl
theorem latch : Statement .latch := fun _ => rfl
theorem unblank : Statement .unblank := fun _ => rfl

end Sys2Proof.Laws.EncodedLength
end

