-- ==== Sys2Proof/Tests/Slice0.lean ====
section
/-! SUPPORT. The model's own tests. Expected values come from `spec/95_test_vectors.md` (V1 to V16), from the encodings of
`spec/30_encoding.md` and from `spec/opcode_table.json`; the witnesses show states that meet the hypotheses of the statements. -/

namespace Sys2Proof.Tests

open Sys2Proof.Machine Sys2Proof.Safety Sys2Proof.Certificates

/-! ### Small states -/

/-- The state a step answers, if any. -/
def after : Out → Option State
  | .next s    => some s
  | .fault _   => none
  | .refused _ => none

/-- Running, at a cursor, with some cells listed. -/
def runningAt (c : Fin 9) (m : Memory) : State := { State.reset with phase := .running, cursor := c, mem := m }

/-- The same with a frame in flight. -/
def busyAt (c : Fin 9) (m : Memory) (f : Word24) : State := { runningAt c m with tx := .shifting, txf := f }

/-- The default configuration with the other SKIP_POLICY. -/
def noFrameConfig : Config := { defaultConfig with skipPolicy := .noFrame }

/-- Another legal configuration: other places for segments, grids and the sign bit, the other bit order. -/
def otherConfig : Config :=
  { defaultConfig with segBit := #v[6, 5, 4, 3, 2, 1, 0], gridBit := #v[7, 6, 5, 4, 3, 2, 1, 0], signBit := 0,
                       bitOrder := .lsbFirst, skipPolicy := .noFrame }

/-- The buffer of V13, "-1234.5 xy". -/
def bufferV13 : Memory :=
  [(0, 0x2D#8), (1, 0x31#8), (2, 0x32#8), (3, 0x33#8), (4, 0x34#8), (5, 0x2E#8), (6, 0x35#8), (8, 0x78#8), (9, 0x79#8)]

/-- A state in the middle of a burst, with its TXDONE to come. -/
def midBurst : State :=
  { busyAt 2 bufferV13 0x800600#24 with
    trace := [.blank, .send 0x800600#24]
    inputs := [.word ⟨.event6, [0x04#8, 0#8, 0#8]⟩] }

/-- A WRCH that comes while the producer has two writes to make. -/
def waitingWrch : State :=
  { State.reset with
    inputs := [.word ⟨.event6, [0x01#8, 0#8, 0x2D#8]⟩]
    producer := [⟨0, 0x31#8⟩, ⟨1, 0x32#8⟩] }

/-- What a pure function answers in a state. -/
def answer (i : Instr) (s : State) : Option Result := (after (exec i s)).map (·.result)

/-! ### Well-formedness: each check refuses an ill-formed term -/

theorem test_fallback_of_a_recognised_character_is_ill_formed : wellFormed defaultConfig (.encFallback 0x30#8) = false := by decide
theorem test_fallback_of_g_is_well_formed : wellFormed defaultConfig (.encFallback 0x47#8) = true := by decide
theorem test_ser_without_selector_is_ill_formed : wellFormed defaultConfig (.ser 0x005E00#24) = false := by decide
theorem test_ser_with_two_selectors_is_ill_formed : wellFormed defaultConfig (.ser 0x805E80#24) = false := by decide
theorem test_sendFrame_with_two_grids_is_ill_formed : wellFormed defaultConfig (.sendFrame 0x815E00#24) = false := by decide
theorem test_send_with_low_bits_is_ill_formed : wellFormed defaultConfig (.send 0x805E01#24) = false := by decide
theorem test_every_segment_bit_is_well_formed : wellFormed defaultConfig (.send 0x80FF00#24) = true := by decide

/-! ### Decoding: words written out from the encodings -/

/-- The character rows, bit by bit from R49. -/
theorem test_decode_characters :
    ([(0b00110000#8, Instr.encDigit0), (0b00110001#8, .encDigit1), (0b00110010#8, .encDigit2), (0b00110011#8, .encDigit3),
      (0b00110100#8, .encDigit4), (0b00110101#8, .encDigit5), (0b00110110#8, .encDigit6), (0b00110111#8, .encDigit7),
      (0b00111000#8, .encDigit8), (0b00111001#8, .encDigit9), (0b01000001#8, .encUpperA), (0b01000010#8, .encUpperB),
      (0b01000011#8, .encUpperC), (0b01000100#8, .encUpperD), (0b01000101#8, .encUpperE), (0b01000110#8, .encUpperF)].all
      fun p => decide (decode defaultConfig ⟨.char8, [p.1]⟩ = .instr p.2)) = true := by decide

theorem test_decode_characters_more :
    ([(0b01100001#8, Instr.encLowerA), (0b01100010#8, .encLowerB), (0b01100011#8, .encLowerC), (0b01100100#8, .encLowerD),
      (0b01100101#8, .encLowerE), (0b01100110#8, .encLowerF), (0b00101110#8, .encPoint), (0b00101010#8, .encStar),
      (0b00101101#8, .encMinus), (0b00100000#8, .encSpace), (0b01000111#8, .encFallback 0x47#8),
      (0b00000000#8, .encFallback 0x00#8)].all
      fun p => decide (decode defaultConfig ⟨.char8, [p.1]⟩ = .instr p.2)) = true := by decide

/-- The raw masks of R53, bits 7..0 first. -/
theorem test_decode_selectors :
    ([([0#8, 0#8, 0b00000001#8], Instr.gridselGrid0), ([0#8, 0#8, 0b00000010#8], .gridselGrid1),
      ([0#8, 0#8, 0b00000100#8], .gridselGrid2), ([0#8, 0#8, 0b00001000#8], .gridselGrid3),
      ([0#8, 0#8, 0b00010000#8], .gridselGrid4), ([0#8, 0#8, 0b00100000#8], .gridselGrid5),
      ([0#8, 0#8, 0b01000000#8], .gridselGrid6), ([0#8, 0#8, 0b10000000#8], .gridselGrid7),
      ([0b10000000#8, 0#8, 0#8], .gridselSign)].all
      fun p => decide (decode defaultConfig ⟨.gridsel24, p.1⟩ = .instr p.2)) = true := by decide

/-- Frames of V1 and V13: 0x805E00, 0x004080. -/
theorem test_decode_frames :
    decode defaultConfig ⟨.frame24, [0x00#8, 0x5E#8, 0x80#8]⟩ = .instr (.frameGrid 7 0x5E#8) ∧
    decode defaultConfig ⟨.frame24, [0x80#8, 0x40#8, 0x00#8]⟩ = .instr (.frameSign 0x40#8) ∧
    decode defaultConfig ⟨.frame24, [0x00#8, 0x40#8, 0x00#8]⟩ = .rejected .notOneSelector := by decide

/-- The events of R58. -/
theorem test_decode_events :
    ([([0b100000#8, 0#8, 0#8], Instr.reset), ([0b010000#8, 0#8, 0#8], .stop), ([0b001000#8, 0#8, 0#8], .start),
      ([0b000100#8, 0#8, 0#8], .txdone), ([0b000010#8, 0#8, 0#8], .tick), ([0b000001#8, 0x0C#8, 0x5A#8], .wrch 12 0x5A#8)].all
      fun p => decide (decode defaultConfig ⟨.event6, p.1⟩ = .instr p.2)) = true := by decide

/-- The operations selected by name. -/
theorem test_decode_named :
    ([(OpName.ser, [0x00#8, 0x5E#8, 0x80#8], Instr.ser 0x805E00#24), (.enc, [0x47#8], .enc 0x47#8),
      (.gridsel, [8#8], .gridsel .sign), (.gridsel, [7#8], .gridsel (.grid 7)),
      (.frame, [0x00#8, 0x5E#8, 0x00#8, 0x00#8, 0x00#8, 0x80#8], .frame (.grid 7) 0x5E#8),
      (.selectDigit, [1#8], .selectDigit 0), (.selectDigit, [8#8], .selectDigit 7), (.selectSign, [0#8], .selectSign),
      (.selectSkip, [0#8], .selectSkip), (.setdisp, [0x31#8, 0x32#8], .setdisp [0x31#8, 0x32#8]),
      (.sendFrame, [0x80#8, 0x80#8, 0x00#8], .sendFrame 0x008080#24), (.blank, [], .blank),
      (.send, [0x80#8, 0x80#8, 0x00#8], .send 0x008080#24), (.latch, [], .latch), (.unblank, [], .unblank)].all
      fun p => decide (decode defaultConfig ⟨.named p.1, p.2.1⟩ = .instr p.2.2)) = true := by decide

/-- Words that are no operation are rejected by name. -/
theorem test_decode_rejects :
    decode defaultConfig ⟨.char8, []⟩ = .rejected .wrongLength ∧
    decode defaultConfig ⟨.event6, [0x40#8, 0#8, 0#8]⟩ = .rejected .reservedBits ∧
    decode defaultConfig ⟨.event6, [0x01#8, 0x10#8, 0#8]⟩ = .rejected .reservedBits ∧
    decode defaultConfig ⟨.event6, [0x00#8, 0#8, 0#8]⟩ = .rejected .noEvent ∧
    decode defaultConfig ⟨.gridsel24, [0#8, 0#8, 0x03#8]⟩ = .rejected .notOneSelector ∧
    decode defaultConfig ⟨.named .gridsel, [9#8]⟩ = .rejected .selectorIndex ∧
    decode defaultConfig ⟨.named .selectDigit, [0#8]⟩ = .rejected .cursorValue ∧
    decode defaultConfig ⟨.named .selectDigit, [9#8]⟩ = .rejected .cursorValue ∧
    decode defaultConfig ⟨.named .frame, [1#8, 0#8, 0#8, 0#8, 0#8, 0x80#8]⟩ = .rejected .segmentsOutside ∧
    decode defaultConfig ⟨.named .ser, [0#8, 0x5E#8, 0#8]⟩ = .rejected .illFormedFrame := by decide

/-- Table words: the opcode table's numbering, with the collisions of log 9. -/
theorem test_decode_table_words :
    decodeTableWord 8 0x35 = some .encDigit5 ∧ decodeTableWord 24 0x800000 = some .gridselGrid7 ∧
    decodeTableWord 24 0x805E00 = some (.frameGrid 7 0x5E#8) ∧ decodeTableWord 24 0x004080 = some (.frameSign 0x40#8) ∧
    decodeTableWord 8 0x20 = some .reset ∧ decodeTableWord 8 0x02 = some .tick ∧ decodeTableWord 6 0x01 = some (.wrch 0 0#8) ∧
    decodeTableWord 48 0x800000005E00 = some (.frame (.grid 7) 0x5E#8) ∧ decodeTableWord 8 0x00 = some (.encFallback 0#8) := by
  decide

/-- A placed word is the next operation, and the state is the reset state otherwise. -/
theorem test_withFetchWord_runs_start :
    (after (step (State.reset.withFetchWord 8 0x08))).map (·.phase) = some .running ∧
    ((State.reset.withFetchWord 8 0x08).inputs.drop 1) = State.reset.inputs := by decide

/-! ### The character encoder (V10, V11) -/

theorem test_enc_hex :
    ([(0x30#8, 0x003F00#24), (0x31#8, 0x000600#24), (0x32#8, 0x005B00#24), (0x33#8, 0x004F00#24), (0x34#8, 0x006600#24),
      (0x35#8, 0x006D00#24), (0x36#8, 0x007D00#24), (0x37#8, 0x000700#24), (0x38#8, 0x007F00#24), (0x39#8, 0x006F00#24),
      (0x41#8, 0x007700#24), (0x42#8, 0x007C00#24), (0x43#8, 0x003900#24), (0x64#8, 0x005E00#24), (0x65#8, 0x007900#24),
      (0x66#8, 0x007100#24)].all fun p => decide (answer (.enc p.1) State.reset = some (.segments p.2))) = true := by decide

theorem test_enc_corners :
    ([0x00#8, 0x2B#8, 0x2F#8, 0x3A#8, 0x40#8, 0x47#8, 0x60#8, 0x67#8, 0xFF#8, 0xB0#8].all
      fun c => decide (answer (.enc c) State.reset = some (.segments 0x007700#24))) = true := by decide

theorem test_enc_star_is_the_point_bit : answer .encStar State.reset = some (.segments 0x008000#24) := by decide
theorem test_enc_lower_b_is_upper_b : answer .encLowerB State.reset = answer .encUpperB State.reset := by decide
theorem test_enc_under_other_places : answer (.enc 0x31#8) { State.reset with config := otherConfig } = some (.segments 0x003000#24) := by
  decide

/-! ### The frame encoder (V12) -/

theorem test_gridsel_sign : answer .gridselSign State.reset = some (.selector 0x000080#24) := by decide
theorem test_gridsel_grid3 : answer (.gridsel (.grid 3)) State.reset = some (.selector 0x080000#24) := by decide
theorem test_frame_of_8_at_grid_5 : answer (.frameGrid 5 0x7F#8) State.reset = some (.frame 0x207F00#24) := by decide
theorem test_frame_of_8_at_sign : answer (.frame .sign 0x7F#8) State.reset = some (.frame 0x007F80#24) := by decide
theorem test_ser_order :
    (answer (.ser 0x808000#24) State.reset).map (fun r => match r with | .burst bs w => (bs, w.take 9) | _ => ([], [])) =
      some ([0x80#8, 0x80#8, 0x00#8], [true, false, false, false, false, false, false, false, true]) := by decide

/-! ### The digit selector (V13) -/

theorem test_select_minus : answer .selectSign (runningAt 0 bufferV13) = some (.selection (some (.sign, 0x2D#8))) := by decide
theorem test_select_grid3_is_the_point :
    answer (.selectDigit 4) (runningAt 0 bufferV13) = some (.selection (some (.grid 3, 0x2E#8))) := by decide
theorem test_select_skip_of_a_point :
    answer .selectSkip (runningAt 0 [(0, 0x2E#8)]) = some (.selection (some (.sign, 0x20#8))) := by decide
theorem test_select_skip_without_frame :
    answer .selectSkip { runningAt 0 [(0, 0x35#8)] with config := noFrameConfig } = some (.selection none) := by decide

/-! ### The refresh scheduler (V14, V15, V16) -/

theorem test_tick_wraps :
    (after (exec .tick (runningAt 8 [(8, 0x46#8)]))).map (fun s => (s.trace, s.cursor, s.tx, s.txf, s.blank)) =
      some ([.blank, .send 0x017100#24], 0, .shifting, 0x017100#24, true) := by decide
theorem test_tick_drops :
    after (exec .tick (busyAt 4 [(4, 0x34#8)] 0x204F00#24)) = some (busyAt 5 [(4, 0x34#8)] 0x204F00#24) := by decide
theorem test_wrch_of_nul : (after (exec (.wrch 0 0#8) (runningAt 3 bufferV13))).map (·.readCell 0) = some 0#8 := by decide
theorem test_wrch_outside : after (exec (.wrch 12 0x5A#8) (runningAt 3 bufferV13)) = some (runningAt 3 bufferV13) := by decide
theorem test_setdisp_cuts :
    ((after (exec (.setdisp [0x30#8, 0x31#8, 0x32#8, 0x33#8, 0x34#8, 0x35#8, 0x36#8, 0x37#8, 0x38#8, 0x39#8, 0x41#8, 0x42#8])
      State.reset)).map fun s => (s.producer.map (·.char), s.mem)) =
      some ([0x30#8, 0x31#8, 0x32#8, 0x33#8, 0x34#8, 0x35#8, 0x36#8, 0x37#8, 0x38#8, 0x39#8], []) := by decide
theorem test_setdisp_pads :
    ((after (exec (.setdisp [0x31#8, 0x32#8]) State.reset)).map fun s => s.producer.drop 1) =
      some [⟨1, 0x32#8⟩, ⟨2, 0x20#8⟩, ⟨3, 0x20#8⟩, ⟨4, 0x20#8⟩, ⟨5, 0x20#8⟩, ⟨6, 0x20#8⟩, ⟨7, 0x20#8⟩, ⟨8, 0x20#8⟩, ⟨9, 0x20#8⟩] := by
  decide
theorem test_start : (after (exec .start State.reset)).map (·.phase) = some .running := by decide
theorem test_start_stopped :
    (after (exec .start { State.reset with phase := .stopped })).map (·.phase) = some .stopped := by decide
theorem test_stop_in_flight :
    (after (exec .stop (busyAt 2 [] 0x807100#24))).map (fun s => (s.trace, s.phase, s.tx, s.blank, s.visible)) =
      some ([.blank], .stopped, .idle, true, 0#24) := by decide
theorem test_stop_lit :
    (after (exec .stop { runningAt 2 [] with blank := false, latch := 0x017100#24 })).map (fun s => (s.blank, s.visible, s.latch)) =
      some (true, 0#24, 0x017100#24) := by decide

/-! ### The blanking synchronizer and reset (V16) -/

theorem test_sendFrame :
    (after (exec (.sendFrame 0x008080#24) (runningAt 0 []))).map (fun s => (s.trace, s.tx, s.blank, s.visible)) =
      some ([.blank, .send 0x008080#24], .shifting, true, 0#24) := by decide
theorem test_sendFrame_dropped :
    after (exec (.sendFrame 0x805E00#24) (busyAt 0 [] 0x008080#24)) = some (busyAt 0 [] 0x008080#24) := by decide
theorem test_txdone :
    (after (exec .txdone (busyAt 1 [] 0x008080#24))).map (fun s => (s.trace, s.tx, s.latch, s.blank, s.visible)) =
      some ([.latch, .unblank], .idle, 0x008080#24, false, 0x008080#24) := by decide
theorem test_txdone_idle : after (exec .txdone (runningAt 1 [])) = some (runningAt 1 []) := by decide
theorem test_blank : (after (exec .blank { runningAt 1 [] with blank := false })).map (·.blank) = some true := by decide
theorem test_send : (after (exec (.send 0x805E00#24) (runningAt 1 []))).map (fun s => (s.txf, s.tx)) =
    some (0x805E00#24, .shifting) := by decide
theorem test_latch : (after (exec .latch (busyAt 1 [] 0x805E00#24))).map (fun s => (s.latch, s.freeze)) =
    some (0x805E00#24, true) := by decide
theorem test_unblank : (after (exec .unblank (runningAt 1 []))).map (·.blank) = some false := by decide
theorem test_reset :
    (after (exec .reset (busyAt 5 bufferV13 0x805E00#24))).map (fun s => (s.cursor, s.phase, s.tx, s.blank)) =
      some (0, .init, .idle, true) := by decide
theorem test_reset_clears_the_buffer_and_emits_nothing :
    (after (exec .reset midBurst)).map (fun s => (s.mem.isEmpty, s.trace)) = some (true, [.blank, .send 0x800600#24]) := by decide

/-! ### Steps: one sample, and the outputs of D10 -/

/-- START, TICK and WRCH in one sample: START first, the others stay for the following steps. -/
theorem test_step_takes_the_first_event :
    (after (step { State.reset with inputs := [.word ⟨.event6, [0x0B#8, 1#8, 0x44#8]⟩] })).map (fun s => (s.phase, s.inputs)) =
      some (.running, [.word ⟨.event6, [0x03#8, 1#8, 0x44#8]⟩]) := by decide
/-- The WRCH waits for the earlier writes of the producer (R41). -/
theorem test_step_makes_the_earlier_write_first :
    (after (step waitingWrch)).map (fun s => (s.readCell 0, s.producer, s.inputs)) =
      some (0x31#8, [⟨1, 0x32#8⟩], waitingWrch.inputs) := by decide
theorem test_step_refuses_no_operation :
    step { State.reset with inputs := [.word ⟨.named .gridsel, [9#8]⟩] } = .refused (.noOperation .selectorIndex) := by rfl
theorem test_port_outputs_of_a_tick :
    ((after (exec .tick (runningAt 1 [(1, 0x44#8)]))).map (portOutputs (runningAt 1 [(1, 0x44#8)]))) =
      some ⟨0x805E00#24, true, true, true⟩ := by decide
theorem test_port_outputs_of_txdone :
    ((after (exec .txdone (busyAt 1 [] 0x805E00#24))).map (portOutputs (busyAt 1 [] 0x805E00#24))) =
      some ⟨0x805E00#24, false, false, false⟩ := by decide

/-! ### Witnesses: concrete states and operands that meet the hypotheses of each statement -/

theorem witness_DecodeEncodeRoundTrip :
    defaultConfig.Legal ∧ otherConfig.Legal ∧ wellFormed defaultConfig (.ser 0x805E00#24) = true ∧
    wellFormed otherConfig (.send 0x005E01#24) = true ∧ wellFormed defaultConfig (.encFallback 0xFF#8) = true := by decide
theorem witness_EachWordHasOneMeaning :
    decode defaultConfig ⟨.frame24, [0x00#8, 0xFF#8, 0x80#8]⟩ = .instr (.frameGrid 7 0xFF#8) ∧ OpKind.frame24 ≠ .event6 := by decide
theorem witness_StepRunsTheDecodedOperation :
    (midBurst.inputs = .word ⟨.event6, [0x04#8, 0#8, 0#8]⟩ :: [] ∧
      decode midBurst.config ⟨.event6, [0x04#8, 0#8, 0#8]⟩ = .instr .txdone) ∧
    (waitingWrch.inputs = .word ⟨.event6, [0x01#8, 0#8, 0x2D#8]⟩ :: [] ∧
      decode waitingWrch.config ⟨.event6, [0x01#8, 0#8, 0x2D#8]⟩ = .instr (.wrch 0 0x2D#8) ∧
      waitingWrch.producer = ⟨0, 0x31#8⟩ :: [⟨1, 0x32#8⟩]) ∧
    (({ State.reset with inputs := [.word ⟨.event6, [0#8, 0#8, 0#8]⟩] } : State).inputs =
        .word ⟨.event6, [0#8, 0#8, 0#8]⟩ :: [] ∧
      decode State.reset.config ⟨.event6, [0#8, 0#8, 0#8]⟩ = .rejected .noEvent) ∧
    (({ State.reset with inputs := [.producerTurn], producer := [⟨9, 0x5A#8⟩] } : State).inputs = .producerTurn :: [] ∧
      ({ State.reset with inputs := [.producerTurn], producer := [⟨9, 0x5A#8⟩] } : State).producer = ⟨9, 0x5A#8⟩ :: []) ∧
    ({ State.reset with producer := [⟨9, 0x5A#8⟩] } : State).producer = ⟨9, 0x5A#8⟩ :: [] ∧
    State.reset.inputs = [] ∧ State.reset.producer = [] := by decide
theorem witness_SamplePerformsItsEventsInOrder :
    (0x2F#6 : BitVec 6) ≠ 0 ∧ (0x2F#6).getLsbD 5 = true ∧ (0x1F#6).getLsbD 5 = false ∧ (0x1F#6).getLsbD 4 = true ∧
    (0x0F#6).getLsbD 5 = false ∧ (0x0F#6).getLsbD 4 = false ∧
    ({ State.reset with inputs := [.word ⟨.event6, [(0x0F#6).setWidth 8, (9#4).setWidth 8, 0x5A#8]⟩] } : State).inputs =
      .word ⟨.event6, [(0x0F#6).setWidth 8, (9#4).setWidth 8, 0x5A#8]⟩ :: [] := by decide
/-- A sample with START, TXDONE, TICK and WRCH that comes while the producer has two writes to make. -/
theorem witness_SamplePerformsItsEventsInOrder_pending :
    ({ waitingWrch with inputs := [.word ⟨.event6, [(0x0F#6).setWidth 8, (0#4).setWidth 8, 0x2D#8]⟩] } : State).inputs =
      .word ⟨.event6, [(0x0F#6).setWidth 8, (0#4).setWidth 8, 0x2D#8]⟩ :: [] ∧
    waitingWrch.producer = [⟨0, 0x31#8⟩, ⟨1, 0x32#8⟩] ∧ Instr.wrch 0 0x2D#8 ∈ sampleOps 0x0F#6 0 0x2D#8 := by decide
theorem witness_DigitGlyphs :
    State.reset.config = defaultConfig ∧ (⟨.encDigit9, 0x39#8, 0x006F00#24, .grid 3, 0x086F00#24⟩ : EncRow) ∈ digitRows ∧
    (runningAt 0 [(0, 0x35#8)]).config = defaultConfig ∧ (runningAt 0 [(0, 0x35#8)]).readCell 0 = 0x35#8 :=
  ⟨rfl, by simp [digitRows], rfl, rfl⟩
theorem witness_HexLetterGlyphs :
    State.reset.config = defaultConfig ∧ (⟨.encLowerF, 0x66#8, 0x007100#24, .grid 0, 0x017100#24⟩ : EncRow) ∈ letterRows :=
  ⟨rfl, by simp [letterRows]⟩
theorem witness_PunctuationGlyphs :
    (runningAt 0 [(0, 0x2A#8)]).config = defaultConfig ∧ (runningAt 0 [(0, 0x2A#8)]).readCell 0 = 0x2A#8 ∧
    (runningAt 0 bufferV13).readCell 0 = 0x2D#8 ∧ (runningAt 0 [(0, 0x2E#8)]).readCell 0 = 0x2E#8 ∧
    (runningAt 0 []).readCell 0 = 0x20#8 ∧ 1 ≤ (1 : Fin 9).val ∧ (runningAt 0 [(1, 0x2A#8), (8, 0x2D#8)]).readCell (1 : Fin 9).val = 0x2A#8 ∧
    1 ≤ (8 : Fin 9).val ∧ (runningAt 0 [(1, 0x2A#8), (8, 0x2D#8)]).readCell (8 : Fin 9).val = 0x2D#8 := by decide
theorem witness_EncoderIsTotal : ∀ ch, charCode State.reset.config ch ≠ 0x47#8
  | .digit d => by revert d; decide
  | .upper h => by revert h; decide
  | .lower h => by revert h; decide
  | .point => by decide
  | .star => by decide
  | .minus => by decide
  | .space => by decide
theorem witness_UnrecognisedTakesTheFallback :
    State.reset.config = defaultConfig ∧ 0x00#8 ∉ asciiCodes.toList ∧ 0xFF#8 ∉ asciiCodes.toList := by decide
theorem witness_OnlyHexLettersFold : State.reset.config = defaultConfig ∧ 6 ≤ (6 : Fin 26).val ∧ 6 ≤ (25 : Fin 26).val := by decide
theorem witness_SelectorMasks :
    State.reset.config = defaultConfig ∧ (Instr.gridselSign, GridSel.sign, 8#8, 0x000080#24) ∈ selectorRows ∧
    8 < (9#8 : Byte).toNat ∧ 8 < (255#8 : Byte).toNat := by decide
theorem witness_WireBitOrder :
    State.reset.config.bitOrder = .msbFirst ∧ ({ State.reset with config := otherConfig } : State).config.bitOrder = .lsbFirst ∧
    0 < 24 ∧ 23 < 24 ∧ 2 < 3 ∧ 7 < 8 := by decide
theorem witness_SelectSignPosition :
    holdsSign (runningAt 0 bufferV13) ∧ holdsSign (runningAt 0 [(0, 0x2A#8)]) ∧
    (runningAt 0 bufferV13).config = defaultConfig ∧ (runningAt 0 bufferV13).readCell 0 = 0x2D#8 ∧
    (runningAt 0 [(0, 0x2E#8)]).config = defaultConfig ∧ (runningAt 0 [(0, 0x2E#8)]).readCell 0 = 0x2E#8 := by
  unfold holdsSign; decide
theorem witness_SelectSkipsCellZero :
    ¬ holdsSign (runningAt 0 [(0, 0x2E#8)]) ∧ (runningAt 0 [(0, 0x2E#8)]).config.skipPolicy = .blankSign ∧
    ¬ holdsSign { runningAt 0 [(0, 0x35#8)] with config := noFrameConfig } ∧ noFrameConfig.skipPolicy = .noFrame := by
  unfold holdsSign; decide
/-- The clauses of a tick: outside RUNNING; busy; idle at cursor 1 and at cursor 8; at cursor 0 with and without a sign character, under
both policies. -/
theorem witness_TickRunsItsFourSteps :
    State.reset.phase ≠ .running ∧ ((busyAt 0 [] 0x805E00#24).phase = .running ∧ (busyAt 0 [] 0x805E00#24).tx = .shifting) ∧
    ((runningAt 1 []).phase = .running ∧ (runningAt 1 []).tx = .idle ∧ 1 ≤ (runningAt 1 []).cursor.val) ∧
    1 ≤ (runningAt 8 []).cursor.val ∧ ((runningAt 0 bufferV13).cursor.val = 0 ∧ holdsSign (runningAt 0 bufferV13)) ∧
    (¬ holdsSign (runningAt 0 []) ∧ (runningAt 0 []).config.skipPolicy = .blankSign) ∧
    (¬ holdsSign { runningAt 0 [] with config := noFrameConfig } ∧ noFrameConfig.skipPolicy = .noFrame) := by
  unfold holdsSign; decide
theorem witness_SkippedTickSendsNothingOfCellZero :
    ((runningAt 0 [(0, 0x37#8)]).phase = .running ∧ (runningAt 0 [(0, 0x37#8)]).tx = .idle ∧ (runningAt 0 [(0, 0x37#8)]).cursor = 0 ∧
      ¬ holdsSign (runningAt 0 [(0, 0x37#8)]) ∧ (runningAt 0 [(0, 0x37#8)]).config = defaultConfig) ∧
    ({ runningAt 0 [(0, 0x37#8)] with config := noFrameConfig } : State).config = { defaultConfig with skipPolicy := .noFrame } ∧
    ¬ holdsSign { runningAt 0 [(0, 0x37#8)] with config := noFrameConfig } := by
  unfold holdsSign; decide
theorem witness_TickOutsideRunningDoesNothing :
    State.reset.phase ≠ .running ∧ ({ State.reset with phase := .stopped, cursor := 5 } : State).phase ≠ .running := by decide
theorem witness_BusyTransportDropsTheFrame :
    (busyAt 8 bufferV13 0x204F00#24).phase = .running ∧ (busyAt 8 bufferV13 0x204F00#24).tx = .shifting := by decide
theorem witness_NineTicksCloseTheCycle : (runningAt 3 bufferV13).phase = .running ∧ (runningAt 3 bufferV13).tx = .idle := by decide
theorem witness_EveryPositionIsReached : (busyAt 1 bufferV13 0x204F00#24).phase = .running := by decide
theorem witness_TickReadsOnlyTheCursorCell :
    Memory.read (runningAt 8 bufferV13).unlisted [(8, 0x78#8), (9, 0x41#8)] (runningAt 8 bufferV13).cursor.val =
      (runningAt 8 bufferV13).readCell (runningAt 8 bufferV13).cursor.val ∧
    ∃ t, exec .tick (runningAt 8 bufferV13) = .next t := ⟨by decide, _, rfl⟩
theorem witness_NonSignCellZeroIsNeverShown :
    (¬ holdsSign (runningAt 0 [(0, 0x35#8)]) ∧ ¬ holdsSign ((runningAt 0 [(0, 0x35#8)]).writeCell 0 0x2E#8)) ∧
    ∃ t, exec .tick (runningAt 0 [(0, 0x35#8)]) = .next t := ⟨by unfold holdsSign; decide, _, rfl⟩
theorem witness_WrchWritesOneCell :
    (9#4).toNat ≤ 9 ∧ 9 < (10#4).toNat ∧ (runningAt 0 []).config = defaultConfig ∧ (runningAt 0 []).phase = .running ∧
    (runningAt 0 []).tx = .idle ∧ (runningAt 0 []).cursor = 0 := by decide
theorem witness_SetdispLandsCellByCell :
    ((runningAt 4 bufferV13).producer = [] ∧ (runningAt 4 bufferV13).inputs = [] ∧ 0 ≤ 10 ∧ 10 ≤ 10) ∧
    ∃ u, exec (.setdisp [0x31#8]) (runningAt 4 bufferV13) = .next u := ⟨by decide, _, rfl⟩
theorem witness_StartOnlyLeavesInit :
    State.reset.phase = .init ∧ (runningAt 0 []).phase ≠ .init ∧ ({ State.reset with phase := .stopped } : State).phase ≠ .init := by
  decide
theorem witness_StopBlanksAndReleases :
    ∀ i ∈ [Instr.txdone, .start, .tick, .stop, .setdisp [0x2D#8]], isOutsideOp i = true ∧ i ≠ .reset := by decide
theorem witness_StoppedBlockStaysDark :
    ({ State.reset with phase := .stopped } : State).phase = .stopped ∧ State.reset.tx = .idle ∧ State.reset.blank = true ∧
    (∀ i ∈ [Instr.txdone, .tick, .start, .wrch 0 0x2D#8, .stop], isOutsideOp i = true ∧ i ≠ .reset) := by decide
theorem witness_SendAcceptsOrDrops : (runningAt 0 []).tx = .idle ∧ (busyAt 0 [] 0x008080#24).tx = .shifting := by decide
theorem witness_TxdoneLatchesThenUnblanks : (busyAt 0 [] 0x008080#24).tx = .shifting ∧ (runningAt 0 []).tx = .idle := by decide
theorem witness_TxdoneLatchesThenUnblanks_invariant : BlockInv midBurst ∧ midBurst.tx = .shifting :=
  ⟨⟨by decide, by decide, by decide, by decide, by decide, by decide, by decide, by decide, by decide, by decide⟩, by decide⟩
/-- TXDONE of a burst: the premises hold, BLANK goes from 1 to 0, and `unblank` is among the new events. -/
theorem witness_OnlyTxdoneUnblanks :
    isOutsideOp .txdone = true ∧ (busyAt 0 [] 0x008080#24).blank = true ∧
    ∃ t, exec .txdone (busyAt 0 [] 0x008080#24) = .next t ∧ t.blank = false ∧ .unblank ∈ newEvents (busyAt 0 [] 0x008080#24) t :=
  ⟨rfl, rfl, _, rfl, rfl, by decide⟩
/-- A tick that sends, a tick on a busy transport, and a TXDONE that ends the burst. -/
theorem witness_OneFrameInFlight :
    (∃ t, exec .tick (runningAt 1 [(1, 0x44#8)]) = .next t ∧ .send 0x805E00#24 ∈ newEvents (runningAt 1 [(1, 0x44#8)]) t) ∧
    (∃ t, exec .tick (busyAt 1 [] 0x008080#24) = .next t ∧ t.tx = .shifting) ∧
    (∃ t, exec .txdone (busyAt 1 [] 0x008080#24) = .next t ∧ t.tx = .idle) :=
  ⟨⟨_, rfl, by decide⟩, ⟨_, rfl, rfl⟩, _, rfl, rfl⟩
theorem witness_EverySendIsBracketed :
    (∃ s0, exec .reset (busyAt 4 bufferV13 0x204F00#24) = .next s0) ∧
    (∀ i ∈ [Instr.start, .tick, .txdone, .wrch 1 0x44#8, .tick, .tick], isOutsideOp i = true ∧ i ≠ .reset ∧ i ≠ .stop) :=
  ⟨⟨_, rfl⟩, by decide⟩
theorem witness_ResetTakesTheResetValues :
    (busyAt 4 bufferV13 0x204F00#24).config = defaultConfig ∧ ({ State.reset with phase := .stopped } : State).phase ≠ .init ∧
    ∃ t, exec .reset { State.reset with phase := .stopped } = .next t ∧ t.phase = .init := ⟨rfl, by decide, _, rfl, rfl⟩
theorem witness_NoOperationRaises :
    midBurst.inputs = .word ⟨.event6, [0x04#8, 0#8, 0#8]⟩ :: [] ∧
    decode midBurst.config ⟨.event6, [0x04#8, 0#8, 0#8]⟩ = .instr .txdone := by decide
theorem witness_ResetStateHoldsTheResetValues : 0 < 10 ∧ 9 < 10 := by decide
theorem witness_PureFunctionsWriteNoState : isPure (.frame .sign 0x80#8) = true ∧ isPure .selectSkip = true := by decide
theorem witness_WhoMayWriteWhat :
    (∃ t, exec .tick (runningAt 8 []) = .next t ∧ t.cursor ≠ (runningAt 8 []).cursor) ∧
    (∃ t, exec (.wrch 9 0x41#8) (runningAt 8 []) = .next t ∧ t.mem ≠ (runningAt 8 []).mem) ∧
    (∃ t, exec (.setdisp []) (runningAt 8 []) = .next t ∧ t.producer ≠ (runningAt 8 []).producer) :=
  ⟨⟨_, rfl, by decide⟩, ⟨_, rfl, by decide⟩, _, rfl, by decide⟩
theorem witness_ConfigurationIsNeverWritten : ∃ t, step (State.reset.withFetchWord 8 0x08) = .next t := ⟨_, rfl⟩
theorem witness_EveryStepKeepsCellsCanonical :
    Memory.wf 0x20#8 bufferV13 ∧
    ∃ t, step { runningAt 0 bufferV13 with inputs := [.word ⟨.event6, [0x01#8, 0x08#8, 0x20#8]⟩] } = .next t := ⟨by decide, _, rfl⟩
theorem witness_CanonicalCellsAreDetermined :
    Memory.wf 0x20#8 bufferV13 ∧ (∀ a, Memory.read 0x20#8 bufferV13 a = Memory.read 0x20#8 bufferV13 a) := ⟨by decide, fun _ => rfl⟩

theorem witness_EveryStepKeepsTheBlockInvariant : BlockInv midBurst ∧ ∃ t, step midBurst = .next t ∧ t.blank = false :=
  ⟨⟨by decide, by decide, by decide, by decide, by decide, by decide, by decide, by decide, by decide, by decide⟩, _, rfl, rfl⟩
theorem witness_NothingGarbledIsEverVisible :
    BlockInv midBurst ∧ ∃ t, runSteps 1 midBurst = .next t ∧ t.visible = 0x800600#24 :=
  ⟨witness_EveryStepKeepsTheBlockInvariant.1, _, rfl, rfl⟩
theorem witness_ProducerWritesKeepTheirOrder :
    ({ waitingWrch with inputs := [.word ⟨.named .setdisp, [0x31#8, 0x32#8]⟩, .word ⟨.event6, [0x01#8, (9#4).setWidth 8, 0x2D#8]⟩] }
      : State).inputs =
    .word ⟨.named .setdisp, [0x31#8, 0x32#8]⟩ :: .word ⟨.event6, [0x01#8, (9#4).setWidth 8, 0x2D#8]⟩ :: [] := rfl

end Sys2Proof.Tests
end

section
/-! PROOFS. The wire order of a burst: how the 24 bits that SER answers follow from the three bytes and the order inside one
byte (`spec/30_encoding.md` R34, R35). -/

namespace Sys2Proof.Proofs

open Sys2Proof.Machine

/-! ### One byte on the wire -/

@[simp] theorem length_wireByte (order : BitOrder) (b : Byte) : (wireByte order b).length = 8 := by
  cases order <;> simp [wireByte]

theorem getElem?_wireByte_msbFirst (b : Byte) {n : Nat} (hn : n < 8) :
    (wireByte .msbFirst b)[n]? = some (b.getLsbD (7 - n)) := by
  simp [wireByte, hn]

theorem getElem?_wireByte_lsbFirst (b : Byte) {n : Nat} (hn : n < 8) :
    (wireByte .lsbFirst b)[n]? = some (b.getLsbD n) := by
  simp [wireByte, hn]

/-! ### The burst on the wire -/

theorem getElem?_ser (f : Word24) {b : Nat} (hb : b < 3) : (ser f)[b]? = some (f.extractLsb' (8 * (2 - b)) 8) := by
  match b, hb with
  | 0, _ => rfl
  | 1, _ => rfl
  | 2, _ => rfl

/-- Whatever order a byte's bits leave in, each byte takes eight places of the wire and the bytes keep their own order. -/
theorem getElem?_flatMap_wireByte (order : BitOrder) (bytes : List Byte) (b : Nat) {n : Nat} (hn : n < 8) :
    (bytes.flatMap (wireByte order))[8 * b + n]? = bytes[b]?.bind fun x => (wireByte order x)[n]? := by
  induction bytes generalizing b with
  | nil => simp
  | cons x xs ih =>
    cases b with
    | zero => simp [List.getElem?_append_left, hn]
    | succ b =>
      have hpast : 8 * (b + 1) + n - 8 = 8 * b + n := by omega
      rw [List.flatMap_cons, List.getElem?_append_right (by simp; omega), length_wireByte, hpast, ih]
      simp

theorem getElem?_wireBits (cfg : Config) (f : Word24) {b n : Nat} (hb : b < 3) (hn : n < 8) :
    (wireBits cfg f)[8 * b + n]? = (wireByte cfg.bitOrder (f.extractLsb' (8 * (2 - b)) 8))[n]? := by
  rw [wireBits, getElem?_flatMap_wireByte _ _ _ hn, getElem?_ser f hb, Option.bind_some]

theorem length_wireBits (cfg : Config) (f : Word24) : (wireBits cfg f).length = 24 := by
  simp [wireBits, ser]

/-- Place n of the wire is place n % 8 of byte n / 8, so the two reversals (R34's of the bytes, R35's inside a byte) make one
reversal of the whole frame. -/
theorem getElem?_wireBits_msbFirst {cfg : Config} (hcfg : cfg.bitOrder = .msbFirst) (f : Word24) {n : Nat} (hn : n < 24) :
    (wireBits cfg f)[n]? = some (f.getLsbD (23 - n)) := by
  have hbyte : n / 8 < 3 := by omega
  have hbit : n % 8 < 8 := by omega
  have hplace : 8 * (2 - n / 8) + (7 - n % 8) = 23 - n := by omega
  have hin : 7 - n % 8 < 8 := by omega
  calc (wireBits cfg f)[n]?
      = (wireBits cfg f)[8 * (n / 8) + n % 8]? := by rw [Nat.div_add_mod]
    _ = some ((f.extractLsb' (8 * (2 - n / 8)) 8).getLsbD (7 - n % 8)) := by
        rw [getElem?_wireBits cfg f hbyte hbit, hcfg, getElem?_wireByte_msbFirst _ hbit]
    _ = some (f.getLsbD (23 - n)) := by
        rw [BitVec.getLsbD_extractLsb', decide_eq_true hin, Bool.true_and, hplace]

theorem getElem?_wireBits_lsbFirst {cfg : Config} (hcfg : cfg.bitOrder = .lsbFirst) (f : Word24) {b n : Nat}
    (hb : b < 3) (hn : n < 8) : (wireBits cfg f)[8 * b + n]? = some (f.getLsbD (8 * (2 - b) + n)) := by
  rw [getElem?_wireBits cfg f hb hn, hcfg, getElem?_wireByte_lsbFirst _ hn, BitVec.getLsbD_extractLsb', decide_eq_true hn,
    Bool.true_and]

theorem exec_ser (f : Word24) (s : State) :
    exec (.ser f) s = .next { s with result := .burst (ser f) (wireBits s.config f) } := rfl

/-- Settles O19: the wire is `wireBits`, whose places are read off under each value of BIT_ORDER. -/
theorem wireBitOrder : Obligations.WireBitOrder := by
  unfold Obligations.WireBitOrder
  refine ⟨rfl, fun s f => ⟨wireBits s.config f, exec_ser f s, length_wireBits s.config f, ?msb, ?lsb⟩⟩
  case msb => exact fun hcfg n hn => getElem?_wireBits_msbFirst hcfg f hn
  case lsb => exact fun hcfg b hb n hn => getElem?_wireBits_lsbFirst hcfg f hb hn

end Sys2Proof.Proofs
end

section
/-! PROOFS. The character encoder: a recognised character is found again by its code, every other code takes the fallback, and
the rows of the spec follow from one lemma over the character a row stands for (`spec/40_character_encoder.md` R65 to R85). -/

namespace Sys2Proof.Proofs

open Sys2Proof.Machine Sys2Proof.Certificates

/-! ### The recognised set (R49, R65) -/

/-- The recognised set lists the characters in the order of CHAR_CODE, so it holds all of them. -/
theorem getElem?_recognisedSet_chrIndex (ch : Chr) : recognisedSet[(chrIndex ch).val]? = some ch := by
  cases ch with
  | digit d => revert d; decide
  | upper h => revert h; decide
  | lower h => revert h; decide
  | point => rfl
  | star => rfl
  | minus => rfl
  | space => rfl

theorem mem_recognisedSet (ch : Chr) : ch ∈ recognisedSet :=
  List.mem_of_getElem? (getElem?_recognisedSet_chrIndex ch)

theorem chrIndex_injective : Function.Injective chrIndex := fun a b hab =>
  Option.some.inj <| by rw [← getElem?_recognisedSet_chrIndex a, hab, getElem?_recognisedSet_chrIndex b]

theorem charCode_mem (cfg : Config) (ch : Chr) : charCode cfg ch ∈ cfg.charCode.toList := by
  simp [charCode]

/-- "The codes are distinct, so at most one matches" (R65). -/
theorem charCode_injective {cfg : Config} (hcodes : cfg.charCode.toList.Nodup) : Function.Injective (charCode cfg) := by
  intro a b hab
  have hindex : (chrIndex a).val = (chrIndex b).val := by
    rw [← hcodes.getElem_inj_iff (hi := by simp) (hj := by simp)]
    simpa [charCode] using hab
  exact chrIndex_injective (Fin.ext hindex)

theorem recognise_eq_none_iff {cfg : Config} {c : Byte} : recognise cfg c = none ↔ ∀ ch, charCode cfg ch ≠ c := by
  simp [recognise, mem_recognisedSet]

theorem recognise_charCode {cfg : Config} (hcodes : cfg.charCode.toList.Nodup) (ch : Chr) :
    recognise cfg (charCode cfg ch) = some ch := by
  cases h : recognise cfg (charCode cfg ch) with
  | none => exact absurd rfl (recognise_eq_none_iff.mp h ch)
  | some ch' => rw [charCode_injective hcodes (Laws.recognise_some h)]

/-! ### ENC (R65, R67, R69) -/

theorem encode7_of_charCode_eq {cfg : Config} (hcodes : cfg.charCode.toList.Nodup) {ch : Chr} {c : Byte}
    (hc : charCode cfg ch = c) : encode7 cfg c = encChr cfg ch := by
  simp [encode7, ← hc, recognise_charCode hcodes]

theorem encode7_of_unrecognised {cfg : Config} {c : Byte} (h : ∀ ch, charCode cfg ch ≠ c) :
    encode7 cfg c = fallbackMask cfg := by
  simp [encode7, recognise_eq_none_iff.mpr h]

/-- Both cases of a hex letter have one glyph, whatever CHAR_CODE says (R69; log 21). -/
theorem encChr_lower (cfg : Config) (h : Fin 6) : encChr cfg (.lower h) = encChr cfg (.upper h) := rfl

theorem exec_enc (c : Byte) (s : State) :
    exec (.enc c) s = .next { s with result := .segments (encode7 s.config c) } := rfl

theorem exec_charRow (ch : Chr) (s : State) :
    exec (charRow ch) s = .next { s with result := .segments (encChr s.config ch) } := by
  cases ch with
  | digit d => fin_cases d <;> rfl
  | upper h => fin_cases h <;> rfl
  | lower h => fin_cases h <;> rfl
  | point => rfl
  | star => rfl
  | minus => rfl
  | space => rfl

theorem decode_of_charCode_eq {cfg : Config} (hcodes : cfg.charCode.toList.Nodup) {ch : Chr} {c : Byte}
    (hc : charCode cfg ch = c) : decode cfg ⟨.char8, [c]⟩ = .instr (charRow ch) := by
  simp [decode, oneByte, decodeChar, ← hc, recognise_charCode hcodes]

/-- Settles O10: `exec_enc` names the answer, and no character has the code of an unrecognised one. -/
theorem encoderIsTotal : Obligations.EncoderIsTotal := by
  unfold Obligations.EncoderIsTotal
  exact fun s c => ⟨encode7 s.config c, exec_enc c s, encode7_of_unrecognised⟩

/-! ### A row of the spec and the character it stands for -/

/-- The row is that of the character `ch`: its instruction, code and mask are those of `ch`, and its example frame puts that
mask at its selector. -/
abbrev RowSpells (cfg : Config) (r : EncRow) (ch : Chr) : Prop :=
  charRow ch = r.row ∧ charCode cfg ch = r.code ∧ encChr cfg ch = r.mask ∧ frameOf (gridselMask cfg r.place) r.mask = r.frame

/-- What a row says of its character, the machine does of its code: ENC finds the character again, and so does the decoder. -/
theorem holds_of_rowSpells {s : State} {r : EncRow} {ch : Chr} (hcodes : s.config.charCode.toList.Nodup)
    (h : RowSpells s.config r ch) : r.Holds s := by
  obtain ⟨hrow, hcode, hmask, hframe⟩ := h
  have hanswer : encode7 s.config r.code = r.mask := by rw [encode7_of_charCode_eq hcodes hcode, hmask]
  refine ⟨?row, ?enc, ?decode, ?frame⟩
  case row => rw [← hrow, exec_charRow, hmask]
  case enc => rw [exec_enc, hanswer]
  case decode => rw [decode_of_charCode_eq hcodes hcode, hrow]
  case frame => rw [charFrame, hanswer, hframe]

/-! ### The default configuration -/

theorem nodup_charCode_default : defaultConfig.charCode.toList.Nodup := by decide

theorem charCode_upper_default : ∀ h : Fin 6, charCode defaultConfig (.upper h) = 0x41#8 + BitVec.ofNat 8 h.val := by decide

theorem charCode_lower_default : ∀ h : Fin 6, charCode defaultConfig (.lower h) = 0x61#8 + BitVec.ofNat 8 h.val := by decide

theorem digitRows_spell_digits : ∀ r ∈ digitRows, ∃ d, RowSpells defaultConfig r (.digit d) := by decide

theorem letterRows_spell_letters : ∀ r ∈ letterRows, ∃ h,
    RowSpells defaultConfig r (.upper h) ∨ RowSpells defaultConfig r (.lower h) := by decide

/-- No hex glyph lights more than '8', which lights all seven segments (R78). -/
theorem hexGlyph_le_eight : ∀ h : Fin 16,
    segmentMaskOf (segmentByte defaultConfig defaultConfig.glyph[h]) ≤ 0x007F00#24 := by decide

/-- The letters that are no hex letters have codes of no recognised character (R69). -/
theorem otherLetter_not_mem_asciiCodes : ∀ n : Fin 26, 6 ≤ n.val →
    0x41#8 + BitVec.ofNat 8 n.val ∉ asciiCodes.toList ∧ 0x61#8 + BitVec.ofNat 8 n.val ∉ asciiCodes.toList := by decide

theorem exec_enc_of_not_mem_asciiCodes {s : State} (hcfg : s.config = defaultConfig) {c : Byte} (hc : c ∉ asciiCodes.toList) :
    exec (.enc c) s = .next { s with result := .segments (fallbackMask s.config) } := by
  have hother : ∀ ch, charCode s.config ch ≠ c := by
    rintro ch rfl
    rw [hcfg] at hc
    exact hc (charCode_mem defaultConfig ch)
  rw [exec_enc, encode7_of_unrecognised hother]

/-! ### Cell 0 without a sign character (R103) -/

theorem selectAt_zero_of_not_sign {s : State} (hsign : isSignChar s.config (s.readCell 0) = false)
    (hskip : s.config.skipPolicy = .blankSign) : selectAt s 0 = some (.sign, charCode s.config .space) := by
  simp [Laws.selectAt_zero, selectAtZero, hsign, hskip]

/-! ### The rows -/

/-- Settles O6: each digit row spells its digit; '6' and 'b' are two characters with two masks, and '5' has the code of no
sign character. -/
theorem digitGlyphs : Obligations.DigitGlyphs := by
  unfold Obligations.DigitGlyphs
  intro s hcfg
  have hcodes : s.config.charCode.toList.Nodup := hcfg ▸ nodup_charCode_default
  refine ⟨?rows, ?sixIsNotB, ?eightIsLargest, ?fiveIsNoSign⟩
  case rows =>
    intro r hr
    obtain ⟨d, hd⟩ := digitRows_spell_digits r hr
    exact holds_of_rowSpells hcodes (hcfg ▸ hd)
  case sixIsNotB =>
    have hsix : encode7 defaultConfig 0x36#8 = encChr defaultConfig (.digit 6) :=
      encode7_of_charCode_eq nodup_charCode_default rfl
    have hb : encode7 defaultConfig 0x62#8 = encChr defaultConfig (.lower 1) :=
      encode7_of_charCode_eq nodup_charCode_default rfl
    rw [hcfg, hsix, hb]
    decide
  case eightIsLargest =>
    rw [hcfg]
    exact hexGlyph_le_eight
  case fiveIsNoSign =>
    intro hfive
    have hsign : isSignChar s.config (s.readCell 0) = false := by rw [hfive, hcfg]; rfl
    rw [selectAt_zero_of_not_sign hsign (by rw [hcfg]; rfl), hcfg]
    rfl

/-- Settles O7: each letter row spells its letter in one of the two cases. -/
theorem hexLetterGlyphs : Obligations.HexLetterGlyphs := by
  unfold Obligations.HexLetterGlyphs
  intro s hcfg
  have hcodes : s.config.charCode.toList.Nodup := hcfg ▸ nodup_charCode_default
  refine ⟨?rows, ?fallback⟩
  case rows =>
    intro r hr
    obtain ⟨h, hupper | hlower⟩ := letterRows_spell_letters r hr
    · exact holds_of_rowSpells hcodes (hcfg ▸ hupper)
    · exact holds_of_rowSpells hcodes (hcfg ▸ hlower)
  case fallback =>
    rw [hcfg]
    rfl

/-- Settles O12: the two cases of a hex letter are two codes with one glyph; the other letters are outside CHAR_CODE. -/
theorem onlyHexLettersFold : Obligations.OnlyHexLettersFold := by
  unfold Obligations.OnlyHexLettersFold
  intro s hcfg
  refine ⟨fun h => ?fold, fun n hn => ?fallback⟩
  case fold =>
    rw [exec_enc, exec_enc, hcfg, encode7_of_charCode_eq nodup_charCode_default (charCode_lower_default h),
      encode7_of_charCode_eq nodup_charCode_default (charCode_upper_default h), encChr_lower]
  case fallback =>
    obtain ⟨hupper, hlower⟩ := otherLetter_not_mem_asciiCodes n hn
    exact ⟨exec_enc_of_not_mem_asciiCodes hcfg hupper, exec_enc_of_not_mem_asciiCodes hcfg hlower⟩

end Sys2Proof.Proofs
end

section
/-! PROOFS. The frame encoder: every mask of a frame is written as its three bytes (selector, segments, sign), where OR, AND and
SER act byte by byte (`spec/41_frame_encoder.md` R93 to R97). -/

namespace Sys2Proof.Proofs

open Sys2Proof.Machine

/-! ### A 24-bit word as three bytes -/

theorem wordOf_or_wordOf (a0 a1 a2 b0 b1 b2 : Byte) :
    wordOf a0 a1 a2 ||| wordOf b0 b1 b2 = wordOf (a0 ||| b0) (a1 ||| b1) (a2 ||| b2) :=
  BitVec.or_append.trans (congrArg (· ++ (a0 ||| b0)) BitVec.or_append)

theorem wordOf_and_wordOf (a0 a1 a2 b0 b1 b2 : Byte) :
    wordOf a0 a1 a2 &&& wordOf b0 b1 b2 = wordOf (a0 &&& b0) (a1 &&& b1) (a2 &&& b2) :=
  BitVec.and_append.trans (congrArg (· ++ (a0 &&& b0)) BitVec.and_append)

theorem not_wordOf (b0 b1 b2 : Byte) : ~~~wordOf b0 b1 b2 = wordOf (~~~b0) (~~~b1) (~~~b2) :=
  BitVec.not_append.trans (congrArg (· ++ ~~~b0) BitVec.not_append)

@[simp] theorem wordOf_zero : wordOf 0#8 0#8 0#8 = 0#24 := rfl

theorem extractLsb'_wordOf_high (b0 b1 b2 : Byte) : (wordOf b0 b1 b2).extractLsb' 16 8 = b2 :=
  (BitVec.extractLsb'_append_eq_of_le (by decide)).trans BitVec.extractLsb'_append_eq_left

theorem extractLsb'_wordOf_middle (b0 b1 b2 : Byte) : (wordOf b0 b1 b2).extractLsb' 8 8 = b1 :=
  (BitVec.extractLsb'_append_eq_of_le (by decide)).trans BitVec.extractLsb'_append_eq_right

theorem extractLsb'_wordOf_low (b0 b1 b2 : Byte) : (wordOf b0 b1 b2).extractLsb' 0 8 = b0 :=
  BitVec.extractLsb'_append_eq_right

theorem toNat_wordOf (b0 b1 b2 : Byte) :
    (wordOf b0 b1 b2).toNat = (b2.toNat <<< 8 ||| b1.toNat) <<< 8 ||| b0.toNat :=
  (BitVec.toNat_append _ _).trans (congrArg (· <<< 8 ||| b0.toNat) (BitVec.toNat_append _ _))

/-- SER names the bytes a word was put together from, the highest first. -/
theorem ser_wordOf (b0 b1 b2 : Byte) : ser (wordOf b0 b1 b2) = [b2, b1, b0] := by
  rw [ser, extractLsb'_wordOf_high, extractLsb'_wordOf_middle, extractLsb'_wordOf_low]

/-! ### The bytes of the masks (R53, R56, R59) -/

/-- The highest byte of a selector mask: the place of a grid, nothing of the sign. -/
def gridByte (cfg : Config) : GridSel → Byte
  | .grid k => 1#8 <<< cfg.gridBit[k].val
  | .sign   => 0#8

/-- The lowest byte of a selector mask: the place of the sign, nothing of a grid. -/
def signByte (cfg : Config) : GridSel → Byte
  | .grid _ => 0#8
  | .sign   => 1#8 <<< cfg.signBit.val

theorem shift_high_eq_wordOf : ∀ p : Fin 8, 1#24 <<< (16 + p.val) = wordOf 0#8 0#8 (1#8 <<< p.val) := by decide

theorem shift_low_eq_wordOf : ∀ p : Fin 8, 1#24 <<< p.val = wordOf (1#8 <<< p.val) 0#8 0#8 := by decide

theorem gridselMask_eq_wordOf (cfg : Config) (g : GridSel) :
    gridselMask cfg g = wordOf (signByte cfg g) 0#8 (gridByte cfg g) := by
  cases g with
  | grid k => exact shift_high_eq_wordOf cfg.gridBit[k]
  | sign => exact shift_low_eq_wordOf cfg.signBit

theorem segmentMaskOf_eq_wordOf (segs : Byte) : segmentMaskOf segs = wordOf 0#8 segs 0#8 := by
  have hsegs : segs.toNat < 256 := segs.isLt
  apply BitVec.eq_of_toNat_eq
  calc (segmentMaskOf segs).toNat
      = segs.toNat * 256 := by
        simp only [segmentMaskOf, BitVec.toNat_shiftLeft, BitVec.toNat_setWidth, Nat.shiftLeft_eq]
        omega
    _ = (wordOf 0#8 segs 0#8).toNat := by simp [toNat_wordOf, Nat.shiftLeft_eq]

theorem segmentMask_eq_wordOf : segmentMask = wordOf 0#8 0xFF#8 0#8 := rfl

theorem gridMask_eq_wordOf (cfg : Config) : gridMask cfg = wordOf (signByte cfg .sign) 0#8 0xFF#8 := by
  have hgrids : 0xFF0000#24 = wordOf 0#8 0#8 0xFF#8 := rfl
  simp [gridMask, hgrids, gridselMask_eq_wordOf, wordOf_or_wordOf, gridByte]

theorem frameOf_eq_wordOf (cfg : Config) (g : GridSel) (segs : Byte) :
    frameOf (gridselMask cfg g) (segmentMaskOf segs) = wordOf (signByte cfg g) segs (gridByte cfg g) := by
  simp [frameOf, gridselMask_eq_wordOf, segmentMaskOf_eq_wordOf, wordOf_or_wordOf]

theorem gridByte_default : ∀ k : Fin 8, gridByte defaultConfig (.grid k) = 1#8 <<< k.val := by decide

/-! ### The operands of FRAME are disjoint (R95) -/

theorem gridselMask_and_segmentMask (cfg : Config) (g : GridSel) : gridselMask cfg g &&& segmentMask = 0#24 := by
  rw [gridselMask_eq_wordOf, segmentMask_eq_wordOf, wordOf_and_wordOf]
  simp

theorem segmentMaskOf_and_gridMask (cfg : Config) (segs : Byte) : segmentMaskOf segs &&& gridMask cfg = 0#24 := by
  rw [segmentMaskOf_eq_wordOf, gridMask_eq_wordOf, wordOf_and_wordOf]
  simp

/-- A grid lies in the highest byte, which GRID_MASK holds whole; the sign lies where GRID_MASK holds its bit. -/
theorem gridselMask_and_not_gridMask (cfg : Config) (g : GridSel) : gridselMask cfg g &&& ~~~gridMask cfg = 0#24 := by
  rw [gridselMask_eq_wordOf, gridMask_eq_wordOf, not_wordOf, wordOf_and_wordOf]
  cases g with
  | grid k => simp [signByte]
  | sign => simp [gridByte]

theorem segmentMaskOf_and_not_segmentMask (segs : Byte) : segmentMaskOf segs &&& ~~~segmentMask = 0#24 := by
  rw [segmentMaskOf_eq_wordOf, segmentMask_eq_wordOf, not_wordOf, wordOf_and_wordOf]
  simp

/-- What lies inside a mask comes back out of an OR with what lies outside it: how R95 follows from its disjointness facts. -/
theorem or_and_eq_of_disjoint {w : Nat} {x y m : BitVec w} (hx : x &&& ~~~m = 0#w) (hy : y &&& m = 0#w) :
    (x ||| y) &&& m = x := by
  have hin : x &&& m = x :=
    calc x &&& m
        = (x &&& m) ||| (x &&& ~~~m) := by rw [hx, BitVec.or_zero]
      _ = x := by rw [← BitVec.and_or_distrib_left, BitVec.or_not_self, BitVec.and_allOnes]
  rw [BitVec.and_or_distrib_right, hin, hy, BitVec.or_zero]

theorem frameOf_and_gridMask (cfg : Config) (g : GridSel) (segs : Byte) :
    frameOf (gridselMask cfg g) (segmentMaskOf segs) &&& gridMask cfg = gridselMask cfg g :=
  or_and_eq_of_disjoint (gridselMask_and_not_gridMask cfg g) (segmentMaskOf_and_gridMask cfg segs)

theorem frameOf_and_segmentMask (cfg : Config) (g : GridSel) (segs : Byte) :
    frameOf (gridselMask cfg g) (segmentMaskOf segs) &&& segmentMask = segmentMaskOf segs := by
  rw [frameOf, BitVec.or_comm]
  exact or_and_eq_of_disjoint (segmentMaskOf_and_not_segmentMask segs) (gridselMask_and_segmentMask cfg g)

/-! ### The rows -/

theorem exec_frame (g : GridSel) (segs : Byte) (s : State) :
    exec (.frame g segs) s = .next { s with result := .frame (frameOf (gridselMask s.config g) (segmentMaskOf segs)) } := rfl

theorem exec_frameGrid (k : Fin 8) (segs : Byte) (s : State) :
    exec (.frameGrid k segs) s = exec (.frame (.grid k) segs) s := rfl

theorem exec_frameSign (segs : Byte) (s : State) : exec (.frameSign segs) s = exec (.frame .sign segs) s := rfl

/-- Settles O16: both extractions follow from the four disjointness facts. -/
theorem frameFieldsRoundTrip : Obligations.FrameFieldsRoundTrip := by
  unfold Obligations.FrameFieldsRoundTrip
  refine ⟨fun s g segs => ?extract, fun cfg g segs => ?disjoint, rfl, rfl⟩
  case extract =>
    exact ⟨_, exec_frame g segs s, frameOf_and_gridMask s.config g segs, frameOf_and_segmentMask s.config g segs⟩
  case disjoint =>
    exact ⟨gridselMask_and_segmentMask cfg g, segmentMaskOf_and_gridMask cfg segs, gridselMask_and_not_gridMask cfg g,
      segmentMaskOf_and_not_segmentMask segs⟩

/-- Settles O15: the two typed rows are FRAME at their selector; the corner cases are read off the bytes of the frame. -/
theorem frameIsTheOr : Obligations.FrameIsTheOr := by
  unfold Obligations.FrameIsTheOr
  refine ⟨?frame, ?grid, ?sign, fun cfg g => ?dark, fun cfg segs => ?noGrid, rfl⟩
  case frame => exact fun s g segs => exec_frame g segs s
  case grid => exact fun s k segs => by rw [exec_frameGrid, exec_frame, frameOf]
  case sign => exact fun s segs => by rw [exec_frameSign, exec_frame, frameOf]
  case dark => rw [frameOf_eq_wordOf, gridselMask_eq_wordOf]
  case noGrid => rw [frameOf_eq_wordOf, extractLsb'_wordOf_high, gridByte]

/-- Settles O18: SER names the three bytes a frame is put together from; under the default configuration the lowest is the
sign's 0x80 or empty. -/
theorem burstIsMostSignificantByteFirst : Obligations.BurstIsMostSignificantByteFirst := by
  unfold Obligations.BurstIsMostSignificantByteFirst
  refine ⟨fun s f => ⟨_, exec_ser f s⟩, fun segs => ?sign, fun k segs => ?grid⟩
  case sign =>
    rw [frameOf_eq_wordOf, ser_wordOf]
    rfl
  case grid => rw [frameOf_eq_wordOf, ser_wordOf, gridByte_default, signByte]

end Sys2Proof.Proofs
end

section
/-! PROOFS. The digit selector at cursor 0: SELECT tests the code of cell 0, so '.', which has the mask of '*', is no sign
character (`spec/42_digit_selector.md` R102, R103). -/

namespace Sys2Proof.Proofs

open Sys2Proof.Machine Sys2Proof.Certificates

/-! ### The codes outside the hex digits, under the default configuration (R49) -/

theorem charCode_point_default : charCode defaultConfig .point = 0x2E#8 := rfl

theorem charCode_star_default : charCode defaultConfig .star = 0x2A#8 := rfl

theorem charCode_minus_default : charCode defaultConfig .minus = 0x2D#8 := rfl

theorem charCode_space_default : charCode defaultConfig .space = 0x20#8 := rfl

/-! ### The test on cell 0 (R102) -/

theorem isSignChar_readCell_zero_iff (s : State) : isSignChar s.config (s.readCell 0) = true ↔ holdsSign s := by
  simp [isSignChar, holdsSign]

theorem isSignChar_readCell_zero_eq_false_iff (s : State) :
    isSignChar s.config (s.readCell 0) = false ↔ ¬ holdsSign s := by
  rw [← isSignChar_readCell_zero_iff, Bool.not_eq_true]

/-- Under the default configuration the sign characters are '-' and '*'. -/
theorem holdsSign_default_iff {s : State} (hcfg : s.config = defaultConfig) :
    holdsSign s ↔ s.readCell 0 = 0x2D#8 ∨ s.readCell 0 = 0x2A#8 := by
  rw [holdsSign, hcfg, charCode_minus_default, charCode_star_default]

/-! ### SELECT at cursor 0 (R102, R103) -/

theorem selectAt_zero_of_sign {s : State} (hsign : holdsSign s) : selectAt s 0 = some (.sign, s.readCell 0) := by
  rw [Laws.selectAt_zero s 0 rfl, selectAtZero, if_pos ((isSignChar_readCell_zero_iff s).mpr hsign)]

theorem exec_selectSign (s : State) :
    exec .selectSign s = .next { s with result := .selection (selectAt s 0) } := rfl

theorem exec_selectSkip (s : State) :
    exec .selectSkip s = .next { s with result := .selection (selectAt s 0) } := rfl

theorem exec_selectSign_of_sign {s : State} (hsign : holdsSign s) :
    exec .selectSign s = .next { s with result := .selection (some (.sign, s.readCell 0)) } := by
  rw [exec_selectSign, selectAt_zero_of_sign hsign]

/-- Without a sign character in cell 0, the default SKIP_POLICY selects the blank sign position (R103). -/
theorem selectAt_zero_default_of_not_sign {s : State} (hcfg : s.config = defaultConfig) (hsign : ¬ holdsSign s) :
    selectAt s 0 = some (.sign, 0x20#8) := by
  have hskip : s.config.skipPolicy = .blankSign := by rw [hcfg]; rfl
  rw [selectAt_zero_of_not_sign ((isSignChar_readCell_zero_eq_false_iff s).mpr hsign) hskip, hcfg, charCode_space_default]

/-! ### The masks of '-', '.' and '*' (R86 to R88) -/

theorem charFrame_sign_minus_default : charFrame defaultConfig .sign 0x2D#8 = 0x004080#24 := by
  rw [charFrame, encode7_of_charCode_eq nodup_charCode_default charCode_minus_default]
  rfl

theorem encode7_point_eq_star_default : encode7 defaultConfig 0x2E#8 = encode7 defaultConfig 0x2A#8 := by
  rw [encode7_of_charCode_eq nodup_charCode_default charCode_point_default,
    encode7_of_charCode_eq nodup_charCode_default charCode_star_default]
  rfl

/-- Settles O21: '-' is one of the two sign codes, and '.' is neither of them, although its mask is that of '*'. -/
theorem selectSignPosition : Obligations.SelectSignPosition := by
  unfold Obligations.SelectSignPosition
  intro s
  refine ⟨exec_selectSign_of_sign, fun hcfg hminus => ⟨?select, ?frame⟩, fun hcfg hpoint => ?point⟩
  case select =>
    have hsign : holdsSign s := (holdsSign_default_iff hcfg).mpr (.inl hminus)
    rw [exec_selectSign_of_sign hsign, hminus]
  case frame => rw [hcfg, charFrame_sign_minus_default]
  case point =>
    have hnotSign : ¬ holdsSign s := by
      rw [holdsSign_default_iff hcfg, hpoint]
      decide
    have hskip : selectAt s 0 = some (.sign, 0x20#8) := selectAt_zero_default_of_not_sign hcfg hnotSign
    exact ⟨hnotSign, hcfg ▸ encode7_point_eq_star_default, hskip, by rw [exec_selectSkip, hskip]⟩

end Sys2Proof.Proofs
end

section
/-! PROOFS. The refresh scheduler: what TICK, WRCH and START do to the whole state, one equation per case
(`spec/43_refresh_scheduler.md` R108 to R118). -/

namespace Sys2Proof.Proofs

open Sys2Proof.Machine Sys2Proof.Certificates

/-! ### What a served tick selects (R101 to R103) -/

/-- At a cursor c in 1..8 the grid table's entry c - 1 is grid 8 - c (R104). -/
theorem selectAt_of_pos (s : State) {c : Fin 9} (hc : 1 ≤ c.val) :
    selectAt s c = some (.grid ⟨8 - c.val, by omega⟩, s.readCell c.val) := by
  have hgrid : 7 - (c.val - 1) = 8 - c.val := by omega
  rw [Laws.selectAt_digit s c (by omega), Laws.gridTable_eq]
  simp only [hgrid]

theorem selectAt_zero_blankSign {s : State} (hsign : ¬ holdsSign s) (hskip : s.config.skipPolicy = .blankSign) :
    selectAt s 0 = some (.sign, charCode s.config .space) :=
  selectAt_zero_of_not_sign ((isSignChar_readCell_zero_eq_false_iff s).mpr hsign) hskip

theorem selectAt_zero_noFrame {s : State} (hsign : ¬ holdsSign s) (hskip : s.config.skipPolicy = .noFrame) :
    selectAt s 0 = none := by
  simp [Laws.selectAt_zero, selectAtZero, (isSignChar_readCell_zero_eq_false_iff s).mpr hsign, hskip]

/-! ### TICK (R108, R110, R113, R115) -/

/-- Where a served tick leaves the cursor (R110). -/
def nextCursor (c : Fin 9) : Fin 9 := ⟨(c.val + 1) % 9, Nat.mod_lt _ (by decide)⟩

theorem exec_tick_of_not_running {s : State} (hphase : s.phase ≠ .running) : exec .tick s = .next s := by
  simp [exec, execTick, isRunning, hphase]

theorem exec_tick_of_running {s : State} (hphase : s.phase = .running) : exec .tick s = .next (serveTick s) := by
  simp [exec, execTick, isRunning, hphase]

theorem dispatch_of_busy (f : Word24) {s : State} (hbusy : s.tx = .shifting) : dispatch f s = s := by
  simp [dispatch, isIdle, hbusy]

/-- With the cursor moved on as well, an accepted frame gives the state `afterSend`. -/
theorem dispatch_of_idle (f : Word24) {s : State} (hidle : s.tx = .idle) (c : Fin 9) :
    { dispatch f s with cursor := c } = afterSend s c f := by
  obtain ⟨-, hsent⟩ | ⟨hbusy, -⟩ := Laws.dispatch_cases f s
  · rw [hsent]
    rfl
  · simp [hidle] at hbusy

theorem serveTick_of_busy {s : State} (hbusy : s.tx = .shifting) :
    serveTick s = { s with cursor := nextCursor s.cursor } := by
  obtain ⟨g, ch, -, htick⟩ | ⟨-, htick⟩ := Laws.serveTick_cases s
  · rw [htick, dispatch_of_busy _ hbusy]
    rfl
  · exact htick

theorem serveTick_of_selected {s : State} {g : GridSel} {ch : Byte} (hsel : selectAt s s.cursor = some (g, ch))
    (hidle : s.tx = .idle) : serveTick s = afterSend s (nextCursor s.cursor) (charFrame s.config g ch) := by
  rw [← dispatch_of_idle _ hidle]
  simp [serveTick, hsel, nextCursor]

theorem serveTick_of_none_selected {s : State} (hsel : selectAt s s.cursor = none) :
    serveTick s = { s with cursor := nextCursor s.cursor } := by
  simp [serveTick, hsel, nextCursor]

@[simp] theorem serveTick_cursor (s : State) : (serveTick s).cursor = nextCursor s.cursor := rfl

/-- Settles O25. -/
theorem tickOutsideRunningDoesNothing : Obligations.TickOutsideRunningDoesNothing := by
  unfold Obligations.TickOutsideRunningDoesNothing
  exact fun s hphase => exec_tick_of_not_running hphase

/-- Settles O26: the frame is dropped whatever SELECT answers. -/
theorem busyTransportDropsTheFrame : Obligations.BusyTransportDropsTheFrame := by
  unfold Obligations.BusyTransportDropsTheFrame
  intro s hphase hbusy
  rw [exec_tick_of_running hphase, serveTick_of_busy hbusy]
  rfl

/-- Settles O23: each case of an idle transport is one answer of SELECT. -/
theorem tickRunsItsFourSteps : Obligations.TickRunsItsFourSteps := by
  unfold Obligations.TickRunsItsFourSteps
  refine ⟨fun s hphase => exec_tick_of_not_running hphase, fun s hphase => ?_⟩
  refine ⟨serveTick s, exec_tick_of_running hphase, rfl, ?busy, fun hidle => ⟨?digit, ?sign, ?blankSign, ?noFrame⟩⟩ <;>
    rw [serveTick_cursor]
  case busy => exact serveTick_of_busy
  case digit => exact fun hpos => serveTick_of_selected (selectAt_of_pos s hpos) hidle
  case sign =>
    intro hzero hsign
    have hcursor : s.cursor = 0 := Fin.ext hzero
    exact serveTick_of_selected (hcursor ▸ selectAt_zero_of_sign hsign) hidle
  case blankSign =>
    intro hzero hsign hskip
    have hcursor : s.cursor = 0 := Fin.ext hzero
    exact serveTick_of_selected (hcursor ▸ selectAt_zero_blankSign hsign hskip) hidle
  case noFrame =>
    intro hzero hsign hskip
    have hcursor : s.cursor = 0 := Fin.ext hzero
    exact serveTick_of_none_selected (hcursor ▸ selectAt_zero_noFrame hsign hskip)

/-! ### WRCH (R116, R37) -/

theorem exec_wrch_of_lt {i : BitVec 4} (hi : i.toNat < bufLen) (v : Byte) (s : State) :
    exec (.wrch i v) s = .next (s.writeCell i.toNat v) := by
  simp [exec, execWrch, hi]

theorem exec_wrch_of_ge {i : BitVec 4} (hi : bufLen ≤ i.toNat) (v : Byte) (s : State) :
    exec (.wrch i v) s = .next s := by
  simp [exec, execWrch, hi]

/-- Whatever the index, WRCH writes nothing but the buffer, and there the one cell. -/
theorem exec_wrch_cell (i : BitVec 4) (v : Byte) (s : State) :
    ∃ t, exec (.wrch i v) s = .next t ∧ t = { s with mem := t.mem } ∧
      ∀ a, t.readCell a = if a = i.toNat ∧ i.toNat < bufLen then v else s.readCell a := by
  by_cases hi : i.toNat < bufLen
  · exact ⟨_, exec_wrch_of_lt hi v s, rfl, fun a => by simp [Laws.readCell_writeCell, hi]⟩
  · exact ⟨s, exec_wrch_of_ge (not_lt.mp hi) v s, rfl, fun a => by simp [hi]⟩

/-- R116's example: once '-' stands in cell 0, the tick at cursor 0 sends its frame on the sign position. -/
theorem exec_tick_of_minus {s : State} (hcfg : s.config = defaultConfig) (hphase : s.phase = .running)
    (hidle : s.tx = .idle) (hcursor : s.cursor = 0) (hminus : s.readCell 0 = 0x2D#8) :
    exec .tick s = .next (afterSend s 1 0x004080#24) := by
  have hsel : selectAt s s.cursor = some (.sign, 0x2D#8) := by
    rw [hcursor, selectAt_zero_of_sign ((holdsSign_default_iff hcfg).mpr (.inl hminus)), hminus]
  rw [exec_tick_of_running hphase, serveTick_of_selected hsel hidle, hcursor, hcfg, charFrame_sign_minus_default]
  rfl

/-- Settles O31. -/
theorem wrchWritesOneCell : Obligations.WrchWritesOneCell := by
  unfold Obligations.WrchWritesOneCell
  refine ⟨fun s i v => ?cell, fun s i v hi => exec_wrch_of_ge hi v s, fun s hcfg hphase hidle hcursor => ?minus⟩
  case cell =>
    obtain ⟨t, hexec, hframe, hcells⟩ := exec_wrch_cell i v s
    exact ⟨t, hexec, hframe, fun a => by simpa only [bufLen, Nat.lt_succ_iff] using hcells a⟩
  case minus =>
    have hwrite : exec (.wrch 0 0x2D#8) s = .next (s.writeCell 0 0x2D#8) := exec_wrch_of_lt (by decide) _ s
    have hminus : (s.writeCell 0 0x2D#8).readCell 0 = 0x2D#8 := by rw [Laws.readCell_writeCell, if_pos rfl]
    exact ⟨_, _, hwrite, exec_tick_of_minus hcfg hphase hidle hcursor hminus, rfl⟩

/-! ### START (R118) -/

theorem exec_start_of_init {s : State} (hphase : s.phase = .init) :
    exec .start s = .next { s with phase := .running } := by
  simp [exec, execStart, hphase]

theorem exec_start_of_not_init {s : State} (hphase : s.phase ≠ .init) : exec .start s = .next s := by
  simp [exec, execStart, hphase]

/-- Settles O34. -/
theorem startOnlyLeavesInit : Obligations.StartOnlyLeavesInit := by
  unfold Obligations.StartOnlyLeavesInit
  exact fun s => ⟨exec_start_of_init, exec_start_of_not_init⟩

end Sys2Proof.Proofs
end

section
/-! PROOFS. A stopped block: what STOP does, and that no operation of the surroundings but RESET ends it
(`spec/43_refresh_scheduler.md` R119). -/

namespace Sys2Proof.Proofs

open Sys2Proof.Machine Sys2Proof.Safety Sys2Proof.Certificates

/-! ### The operations of the surroundings (R171) -/

theorem exec_stop (s : State) : exec .stop s =
    .next { s with phase := .stopped, blank := true, tx := .idle, trace := s.trace ++ [.blank] } := rfl

theorem exec_txdone_of_idle {s : State} (hidle : s.tx = .idle) : exec .txdone s = .next s := by
  simp [exec, execTxdone, finishBurst, isIdle, hidle]

theorem exec_setdisp (text : List Byte) (s : State) :
    exec (.setdisp text) s = .next { s with producer := s.producer ++ setdispWrites s.config text } := rfl

/-- A pure function only answers (R16). -/
theorem exec_of_isPure {i : Instr} (hpure : isPure i = true) (s : State) : ∃ r, exec i s = .next (s.deliver r) := by
  cases i with
  | reset | stop | start | txdone | tick | blank | latch | unblank => cases hpure
  | wrch | setdisp | sendFrame | send => cases hpure
  | _ => exact ⟨_, rfl⟩

/-- The operations of the surroundings are the pure functions, the input events and SETDISP (R171). -/
theorem isOutsideOp_cases {i : Instr} (hi : isOutsideOp i = true) :
    isPure i = true ∨ i = .reset ∨ i = .stop ∨ i = .start ∨ i = .txdone ∨ i = .tick ∨
      (∃ a v, i = .wrch a v) ∨ ∃ text, i = .setdisp text := by
  cases i with
  | sendFrame | blank | send | latch | unblank => cases hi
  | reset | stop | start | txdone | tick | wrch | setdisp => simp
  | _ => exact .inl rfl

/-- What each admitted operation answers and keeps, a run of admitted operations answers and keeps. -/
theorem runOps_keeps {P : State → Prop} {admitted : Instr → Prop}
    (hstep : ∀ {i}, admitted i → ∀ {s}, P s → ∃ t, exec i s = .next t ∧ P t) (ops : List Instr) {s : State}
    (hops : ∀ i ∈ ops, admitted i) (hs : P s) : ∃ u, runOps ops s = .next u ∧ P u := by
  induction ops generalizing s with
  | nil => exact ⟨s, rfl, hs⟩
  | cons i is ih =>
    obtain ⟨hi, his⟩ := List.forall_mem_cons.mp hops
    obtain ⟨t, hexec, ht⟩ := hstep hi hs
    obtain ⟨u, hrun, hu⟩ := ih his ht
    exact ⟨u, by rw [runOps, hexec]; exact hrun, hu⟩

/-! ### What STOP brings about (R119) -/

/-- Stopped, blanked, and no frame in flight: what STOP brings about, and of the operations of the surroundings only RESET ends. -/
structure IsStopped (s : State) : Prop where
  phase_stopped : s.phase = .stopped
  blanked       : s.blank = true
  tx_idle       : s.tx = .idle

theorem exec_keeps_isStopped {i : Instr} (hi : isOutsideOp i = true ∧ i ≠ .reset) {s : State} (hs : IsStopped s) :
    ∃ t, exec i s = .next t ∧ IsStopped t := by
  obtain ⟨hout, hreset⟩ := hi
  obtain ⟨hphase, hblank, hidle⟩ := hs
  obtain hpure | rfl | rfl | rfl | rfl | rfl | ⟨a, v, rfl⟩ | ⟨text, rfl⟩ := isOutsideOp_cases hout
  · obtain ⟨r, hexec⟩ := exec_of_isPure hpure s
    exact ⟨_, hexec, hphase, hblank, hidle⟩
  · exact absurd rfl hreset
  · exact ⟨_, exec_stop s, rfl, rfl, rfl⟩
  · exact ⟨s, exec_start_of_not_init (by simp [hphase]), hphase, hblank, hidle⟩
  · exact ⟨s, exec_txdone_of_idle hidle, hphase, hblank, hidle⟩
  · exact ⟨s, exec_tick_of_not_running (by simp [hphase]), hphase, hblank, hidle⟩
  · obtain ⟨t, hexec, hframe, -⟩ := exec_wrch_cell a v s
    exact ⟨t, hexec, by rw [hframe]; exact ⟨hphase, hblank, hidle⟩⟩
  · exact ⟨_, exec_setdisp text s, hphase, hblank, hidle⟩

/-- Settles O35: STOP reaches `IsStopped`, which every operation of the surroundings but RESET keeps. -/
theorem stopBlanksAndReleases : Obligations.StopBlanksAndReleases := by
  unfold Obligations.StopBlanksAndReleases
  intro s
  refine ⟨_, exec_stop s, rfl, rfl, exec_txdone_of_idle rfl, fun ops hops => ?_⟩
  have hstopped : IsStopped { s with phase := .stopped, blank := true, tx := .idle, trace := s.trace ++ [.blank] } :=
    ⟨rfl, rfl, rfl⟩
  obtain ⟨u, hrun, hphase, hblank, hidle⟩ := runOps_keeps exec_keeps_isStopped ops hops hstopped
  exact ⟨u, hrun, hphase, hblank, hidle⟩

end Sys2Proof.Proofs
end

section
/-! PROOFS. The end of a burst: what TXDONE does with a frame in flight and without one (`spec/44_blanking_synchronizer.md`
R126, R132). -/

namespace Sys2Proof.Proofs

open Sys2Proof.Machine Sys2Proof.Safety Sys2Proof.Certificates

/-- A TXDONE with a frame in flight is the `finishBurst` of a busy transport; `exec_txdone_of_idle` is the other case. -/
theorem exec_txdone_of_shifting {s : State} (hbusy : s.tx = .shifting) : exec .txdone s =
    .next { s with latch := s.txf, freeze := true, blank := false, tx := .idle, trace := s.trace ++ [.latch, .unblank] } := by
  have hexec : exec .txdone s = .next (finishBurst s) := rfl
  obtain ⟨-, hburst⟩ | ⟨hidle, -⟩ := Laws.finishBurst_cases s
  · rw [hexec, hburst]
  · cases hbusy.symm.trans hidle

/-- With BLANK at 0 the tube shows LATCH (R20). -/
theorem visible_of_not_blank {s : State} (hlit : s.blank = false) : s.visible = s.latch := by
  simp [State.visible, hlit]

/-- Settles O38. -/
theorem txdoneLatchesThenUnblanks : Obligations.TxdoneLatchesThenUnblanks := by
  unfold Obligations.TxdoneLatchesThenUnblanks
  intro s
  refine ⟨fun hbusy => ?burst, exec_txdone_of_idle, BlockInv.burst_running⟩
  case burst =>
    exact ⟨_, exec_txdone_of_shifting hbusy, rfl, visible_of_not_blank rfl⟩

end Sys2Proof.Proofs
end

section
/-! PROOFS. The block has no exceptions: every operation answers, and so does the step that performs it
(`spec/60_exceptions.md` R136). -/

namespace Sys2Proof.Proofs

open Sys2Proof.Machine Sys2Proof.Safety Sys2Proof.Certificates

/-- Every operation answers: a pure function only delivers, and the arms that write the block's state answer the state written. -/
theorem exec_answers (i : Instr) (s : State) : ∃ t, exec i s = .next t := by
  by_cases hpure : isPure i = true
  · obtain ⟨r, hexec⟩ := exec_of_isPure hpure s
    exact ⟨s.deliver r, hexec⟩
  · cases i with
    | reset | stop | start | txdone | tick | wrch | setdisp => exact ⟨_, rfl⟩
    | sendFrame | blank | send | latch | unblank => exact ⟨_, rfl⟩
    | _ => exact absurd rfl hpure

/-- The producer's turn always answers, for the write it makes is a WRCH. -/
theorem producerTurn_answers (s : State) : ∃ t, producerTurn s = .next t := by
  obtain ⟨-, hturn⟩ | ⟨w, ws, -, hturn⟩ := Laws.producerTurn_cases s
  · exact ⟨s, hturn⟩
  · rw [hturn]
    exact exec_answers (.wrch w.index w.char) { s with producer := ws }

/-- With a word of an operation at the head of `inputs`, a step performs the operation, or a write it has to wait for (R41). -/
theorem step_of_decoded {s : State} {w : OpWord} {rest : List Request} {i : Instr} (hinputs : s.inputs = .word w :: rest)
    (hdecode : decode s.config w = .instr i) :
    step s = if waitsForProducer i s then producerTurn s else exec i { s with inputs := restOfSample w ++ rest } := by
  simp only [step, hinputs, hdecode]

theorem step_answers_of_decoded {s : State} {w : OpWord} {rest : List Request} {i : Instr}
    (hinputs : s.inputs = .word w :: rest) (hdecode : decode s.config w = .instr i) : ∃ t, step s = .next t := by
  rw [step_of_decoded hinputs hdecode]
  split
  · exact producerTurn_answers s
  · exact exec_answers i _

/-- Settles O46. No step faults because there is no fault to name: `Fault` has no constructor (R136). -/
theorem noOperationRaises : Obligations.NoOperationRaises := by
  unfold Obligations.NoOperationRaises
  exact ⟨exec_answers, fun _ _ _ _ => step_answers_of_decoded, fun _ x => nomatch x⟩

end Sys2Proof.Proofs
end

section
/-! PROOFS. The encoding: a word is put together from its bytes and taken apart again, a selector is found by its mask and by its
index, and decoder and encoder undo each other (`spec/30_encoding.md` sections 1 and 2). -/

namespace Sys2Proof.Proofs

open Sys2Proof.Machine

/-! ### Three bytes and a 24-bit word -/

theorem wordOf_extractLsb' (f : Word24) :
    wordOf (f.extractLsb' 0 8) (f.extractLsb' 8 8) (f.extractLsb' 16 8) = f := by
  rw [wordOf, BitVec.extractLsb'_append_extractLsb'_eq_extractLsb' (by rfl),
    BitVec.extractLsb'_append_extractLsb'_eq_extractLsb' (by rfl), BitVec.extractLsb'_eq_self]

theorem wordBytes_wordOf (b0 b1 b2 : Byte) : wordBytes (wordOf b0 b1 b2) = [b0, b1, b2] := by
  rw [wordBytes, extractLsb'_wordOf_low, extractLsb'_wordOf_middle, extractLsb'_wordOf_high]

theorem wordOf_inj {a0 a1 a2 b0 b1 b2 : Byte} :
    wordOf a0 a1 a2 = wordOf b0 b1 b2 ↔ a0 = b0 ∧ a1 = b1 ∧ a2 = b2 := by
  refine ⟨fun h => ?_, fun ⟨h0, h1, h2⟩ => by rw [h0, h1, h2]⟩
  simpa [wordBytes_wordOf] using congrArg wordBytes h

/-- Decoding a word of the three bytes of f reads f. -/
theorem threeBytes_wordBytes (k : Word24 → Decoded) (f : Word24) :
    threeBytes (wordBytes f) (fun b0 b1 b2 => k (wordOf b0 b1 b2)) = k f := by
  simp only [threeBytes, wordBytes, wordOf_extractLsb']

/-! ### A selector is found by its mask and by its index (R53) -/

theorem mem_allSelectors (g : GridSel) : g ∈ allSelectors := by
  cases g <;> simp [allSelectors]

/-- A search by the value of an injective function finds the one element that has it. -/
theorem find?_beq_of_injective {α β : Type} [BEq β] [LawfulBEq β] {key : α → β} (hkey : Function.Injective key)
    {l : List α} {a : α} (ha : a ∈ l) : l.find? (fun x => key x == key a) = some a := by
  cases h : l.find? (fun x => key x == key a) with
  | none => exact absurd (beq_self_eq_true (key a)) (List.find?_eq_none.mp h a ha)
  | some b =>
    have hb : key b = key a := by simpa using List.find?_some h
    rw [hkey hb]

theorem shiftLeft_one_injective : ∀ p q : Fin 8, 1#8 <<< p.val = 1#8 <<< q.val → p = q := by decide

theorem shiftLeft_one_ne_zero : ∀ p : Fin 8, 1#8 <<< p.val ≠ 0#8 := by decide

/-- With the grids at distinct places, a mask is that of one selector: the sign has no bit in the highest byte. -/
theorem gridselMask_injective {cfg : Config} (hgrids : cfg.gridBit.toList.Nodup) :
    Function.Injective (gridselMask cfg) := by
  intro g g' h
  rw [gridselMask_eq_wordOf, gridselMask_eq_wordOf, wordOf_inj] at h
  obtain ⟨-, -, hbyte⟩ := h
  cases g with
  | grid k =>
    cases g' with
    | grid k' =>
      have hplace : cfg.gridBit[k] = cfg.gridBit[k'] := shiftLeft_one_injective _ _ hbyte
      have hk : k.val = k'.val := by
        rw [← hgrids.getElem_inj_iff (hi := by simp) (hj := by simp)]
        simpa using hplace
      rw [Fin.ext hk]
    | sign => exact absurd hbyte (shiftLeft_one_ne_zero _)
  | sign =>
    cases g' with
    | grid k' => exact absurd hbyte.symm (shiftLeft_one_ne_zero _)
    | sign => rfl

theorem selectorOfMask_gridselMask {cfg : Config} (hgrids : cfg.gridBit.toList.Nodup) (g : GridSel) :
    selectorOfMask cfg (gridselMask cfg g) = some g :=
  find?_beq_of_injective (gridselMask_injective hgrids) (mem_allSelectors g)

theorem toNat_selectorIndex_le (g : GridSel) : (selectorIndex g).toNat ≤ 8 := by
  cases g with
  | grid k => revert k; decide
  | sign => decide

theorem selectorIndex_injective : Function.Injective selectorIndex := by
  have hgrid : ∀ k k' : Fin 8, selectorIndex (.grid k) = selectorIndex (.grid k') → k = k' := by decide
  have hsign : ∀ k : Fin 8, selectorIndex (.grid k) ≠ selectorIndex .sign := by decide
  intro g g' h
  cases g with
  | grid k =>
    cases g' with
    | grid k' => rw [hgrid k k' h]
    | sign => exact absurd h (hsign k)
  | sign =>
    cases g' with
    | grid k' => exact absurd h.symm (hsign k')
    | sign => rfl

theorem selectorOfIndex_selectorIndex (g : GridSel) : selectorOfIndex (selectorIndex g) = some g :=
  find?_beq_of_injective selectorIndex_injective (mem_allSelectors g)

/-! ### Rows and the words they are written as -/

theorem charRow_word (cfg : Config) (ch : Chr) :
    encode cfg (charRow ch) = charWord cfg ch ∧ wellFormed cfg (charRow ch) = true := by
  cases ch with
  | digit d => fin_cases d <;> exact ⟨rfl, rfl⟩
  | upper h => fin_cases h <;> exact ⟨rfl, rfl⟩
  | lower h => fin_cases h <;> exact ⟨rfl, rfl⟩
  | point | star | minus | space => exact ⟨rfl, rfl⟩

theorem selectorRow_word (cfg : Config) (g : GridSel) :
    encode cfg (selectorRow g) = selectorWord cfg g ∧ wellFormed cfg (selectorRow g) = true := by
  cases g with
  | grid k => fin_cases k <;> exact ⟨rfl, rfl⟩
  | sign => exact ⟨rfl, rfl⟩

theorem frameRow_word (cfg : Config) (segs : Byte) (g : GridSel) :
    encode cfg (frameRow segs g) = frameWord cfg g segs ∧ wellFormed cfg (frameRow segs g) = true := by
  cases g <;> exact ⟨rfl, rfl⟩

/-! ### Decoding an encoded word -/

section
variable {cfg : Config}

theorem decode_charWord (hcodes : cfg.charCode.toList.Nodup) (ch : Chr) :
    decode cfg (charWord cfg ch) = .instr (charRow ch) :=
  decode_of_charCode_eq hcodes rfl

theorem decode_selectorWord (hgrids : cfg.gridBit.toList.Nodup) (g : GridSel) :
    decode cfg (selectorWord cfg g) = .instr (selectorRow g) :=
  calc decode cfg (selectorWord cfg g)
      = decodeSelector cfg (gridselMask cfg g) := threeBytes_wordBytes (decodeSelector cfg) _
    _ = .instr (selectorRow g) := by simp only [decodeSelector, selectorOfMask_gridselMask hgrids]

/-- Outside SEGMENT_MASK a frame is its selector mask. -/
theorem wordOf_and_not_segmentMask (b0 b1 b2 : Byte) : wordOf b0 b1 b2 &&& ~~~segmentMask = wordOf b0 0#8 b2 := by
  have hnone : ~~~0xFF#8 = 0#8 := rfl
  rw [segmentMask_eq_wordOf, not_wordOf, wordOf_and_wordOf, hnone, BitVec.not_zero, BitVec.and_allOnes, BitVec.and_allOnes,
    BitVec.and_zero]

theorem decode_frameWord (hgrids : cfg.gridBit.toList.Nodup) (g : GridSel) (segs : Byte) :
    decode cfg (frameWord cfg g segs) = .instr (frameRow segs g) :=
  calc decode cfg (frameWord cfg g segs)
      = decodeFrame cfg (frameOf (gridselMask cfg g) (segmentMaskOf segs)) := threeBytes_wordBytes (decodeFrame cfg) _
    _ = .instr (frameRow segs g) := by
        simp only [decodeFrame, frameOf_eq_wordOf, wordOf_and_not_segmentMask, ← gridselMask_eq_wordOf,
          selectorOfMask_gridselMask hgrids, extractLsb'_wordOf_middle]

theorem decode_frame (hgrids : cfg.gridBit.toList.Nodup) (g : GridSel) (segs : Byte) :
    decode cfg (encode cfg (.frame g segs)) = .instr (.frame g segs) := by
  simp only [encode, decode, segmentMaskOf_eq_wordOf, gridselMask_eq_wordOf, wordBytes_wordOf, sixBytes,
    List.cons_append, List.nil_append, decodeFrameOperands]
  simp only [← gridselMask_eq_wordOf, selectorOfMask_gridselMask hgrids]
  simp

theorem threeBytes_withFrame {f : Word24} (hf : wellFormedFrame cfg f = true) (op : Word24 → Instr) :
    threeBytes (wordBytes f) (fun b0 b1 b2 => withFrame cfg op (wordOf b0 b1 b2)) = .instr (op f) := by
  rw [threeBytes_wordBytes, withFrame, if_pos hf]

theorem decode_gridsel (g : GridSel) : decode cfg (encode cfg (.gridsel g)) = .instr (.gridsel g) := by
  simp only [encode, decode, oneByte, decodeIndex, selectorOfIndex_selectorIndex]

theorem decode_selectDigit (j : Fin 8) : decode cfg (encode cfg (.selectDigit j)) = .instr (.selectDigit j) := by
  have hcursor : (BitVec.ofNat 8 (j.val + 1)).toNat = j.val + 1 := by simp; omega
  have hrange : 1 ≤ j.val + 1 ∧ j.val + 1 ≤ 8 := by omega
  simp only [encode, decode, oneByte, decodeDigitCursor, hcursor, hrange]
  simp

theorem decode_encFallback {c : Byte} (hc : wellFormed cfg (.encFallback c) = true) :
    decode cfg (encode cfg (.encFallback c)) = .instr (.encFallback c) := by
  have hnone : recognise cfg c = none := Option.isNone_iff_eq_none.mp hc
  simp only [encode, decode, oneByte, decodeChar, hnone]

/-- The index of a WRCH stands in the low half of its byte (D10; log 10). -/
theorem index_byte : ∀ i : BitVec 4, (i.setWidth 8).extractLsb' 4 4 = 0#4 ∧ (i.setWidth 8).setWidth 4 = i := by decide

theorem decode_wrch (i : BitVec 4) (v : Byte) : decode cfg (encode cfg (.wrch i v)) = .instr (.wrch i v) := by
  obtain ⟨hreserved, hindex⟩ := index_byte i
  simp [encode, decode, threeBytes, decodeSample, hreserved, hindex]

end

/-- Settles O1: a row decodes with the character, selector or frame it stands for; the other operations have a kind or an event
of their own. -/
theorem decodeEncodeRoundTrip : Obligations.DecodeEncodeRoundTrip := by
  unfold Obligations.DecodeEncodeRoundTrip
  rintro cfg ⟨hcodes, -, -, -, hgrids⟩ i hi
  cases i with
  | encDigit0 | encDigit1 | encDigit2 | encDigit3 | encDigit4 | encDigit5 | encDigit6 | encDigit7 | encDigit8 | encDigit9 =>
    exact decode_charWord hcodes (.digit _)
  | encUpperA | encUpperB | encUpperC | encUpperD | encUpperE | encUpperF => exact decode_charWord hcodes (.upper _)
  | encLowerA | encLowerB | encLowerC | encLowerD | encLowerE | encLowerF => exact decode_charWord hcodes (.lower _)
  | encPoint | encStar | encMinus | encSpace => exact decode_charWord hcodes _
  | encFallback c => exact decode_encFallback hi
  | gridselGrid0 | gridselGrid1 | gridselGrid2 | gridselGrid3 | gridselGrid4 | gridselGrid5 | gridselGrid6 | gridselGrid7 =>
    exact decode_selectorWord hgrids (.grid _)
  | gridselSign => exact decode_selectorWord hgrids .sign
  | frameGrid k segs => exact decode_frameWord hgrids (.grid k) segs
  | frameSign segs => exact decode_frameWord hgrids .sign segs
  | gridsel g => exact decode_gridsel g
  | frame g segs => exact decode_frame hgrids g segs
  | selectDigit j => exact decode_selectDigit j
  | wrch a v => exact decode_wrch a v
  | ser f => exact threeBytes_withFrame hi .ser
  | sendFrame f => exact threeBytes_withFrame hi .sendFrame
  | send f => exact threeBytes_withFrame hi .send
  | enc | selectSign | selectSkip | setdisp | blank | latch | unblank => rfl
  | reset | stop | start | txdone | tick => rfl

/-! ### Encoding a decoded instruction -/

/-- What a sample selects first is one of the six input events (R58). -/
theorem decodeSample_instr {ev idx ch : Byte} {i : Instr} (h : decodeSample ev idx ch = .instr i) :
    i = .reset ∨ i = .stop ∨ i = .start ∨ i = .txdone ∨ i = .tick ∨ i = .wrch (idx.setWidth 4) ch := by
  unfold decodeSample at h
  split_ifs at h <;> injection h with h <;> simp [← h]

/-- An answered frame is the frame of its selector and its segments: nothing else stands in it. -/
theorem frameWord_of_selectorOfMask {cfg : Config} {b0 b1 b2 : Byte} {g : GridSel}
    (h : selectorOfMask cfg (wordOf b0 b1 b2 &&& ~~~segmentMask) = some g) :
    frameWord cfg g b1 = ⟨.frame24, [b0, b1, b2]⟩ := by
  have hmask := Laws.selectorOfMask_some h
  rw [gridselMask_eq_wordOf, wordOf_and_not_segmentMask, wordOf_inj] at hmask
  obtain ⟨hsign, -, hgrid⟩ := hmask
  rw [frameWord, frameOf_eq_wordOf, hsign, hgrid, wordBytes_wordOf]

theorem wellFormed_encode_of_threeBytes_withFrame {cfg : Config} {n : OpName} {op : Word24 → Instr} {i : Instr} {bs : List Byte}
    (hform : ∀ f, wellFormed cfg (op f) = wellFormedFrame cfg f) (hword : ∀ f, encode cfg (op f) = ⟨.named n, wordBytes f⟩)
    (h : (threeBytes bs fun b0 b1 b2 => withFrame cfg op (wordOf b0 b1 b2)) = .instr i) :
    wellFormed cfg i = true ∧ encode cfg i = ⟨.named n, bs⟩ := by
  obtain ⟨b0, b1, b2, rfl, h⟩ := Laws.threeBytes_instr h
  obtain ⟨hf, rfl⟩ := Laws.withFrame_instr h
  exact ⟨(hform _).trans hf, by rw [hword, wordBytes_wordOf]⟩

/-- Settles O2: each piece of the decoder answers an instruction whose operands are the bytes it read. -/
theorem eachWordHasOneMeaning : Obligations.EachWordHasOneMeaning := by
  unfold Obligations.EachWordHasOneMeaning
  rintro cfg ⟨kind, bs⟩ i h
  cases kind with
  | char8 =>
    obtain ⟨c, rfl, h⟩ := Laws.oneByte_instr h
    obtain ⟨ch, hch, rfl⟩ | ⟨hnone, rfl⟩ := Laws.decodeChar_instr h
    · obtain ⟨hword, hform⟩ := charRow_word cfg ch
      exact ⟨hform, fun _ => by rw [hword, charWord, Laws.recognise_some hch]⟩
    · exact ⟨Option.isNone_iff_eq_none.mpr hnone, fun _ => rfl⟩
  | gridsel24 =>
    obtain ⟨b0, b1, b2, rfl, h⟩ := Laws.threeBytes_instr h
    obtain ⟨g, hg, rfl⟩ := Laws.decodeSelector_instr h
    obtain ⟨hword, hform⟩ := selectorRow_word cfg g
    refine ⟨hform, fun _ => ?_⟩
    rw [hword, selectorWord, Laws.selectorOfMask_some hg, wordBytes_wordOf]
  | frame24 =>
    obtain ⟨b0, b1, b2, rfl, h⟩ := Laws.threeBytes_instr h
    obtain ⟨g, hg, rfl⟩ := Laws.decodeFrame_instr h
    obtain ⟨hword, hform⟩ := frameRow_word cfg ((wordOf b0 b1 b2).extractLsb' 8 8) g
    refine ⟨hform, fun _ => ?_⟩
    rw [hword, extractLsb'_wordOf_middle, frameWord_of_selectorOfMask hg]
  | event6 =>
    obtain ⟨ev, idx, ch, rfl, h⟩ := Laws.threeBytes_instr h
    refine ⟨?_, fun hkind => absurd rfl hkind⟩
    obtain rfl | rfl | rfl | rfl | rfl | rfl := decodeSample_instr h <;> rfl
  | named n =>
    suffices hboth : wellFormed cfg i = true ∧ encode cfg i = ⟨.named n, bs⟩ from hboth.imp_right fun hword _ => hword
    cases n with
    | ser => exact wellFormed_encode_of_threeBytes_withFrame (fun _ => rfl) (fun _ => rfl) h
    | sendFrame => exact wellFormed_encode_of_threeBytes_withFrame (fun _ => rfl) (fun _ => rfl) h
    | send => exact wellFormed_encode_of_threeBytes_withFrame (fun _ => rfl) (fun _ => rfl) h
    | enc =>
      obtain ⟨c, rfl, h⟩ := Laws.oneByte_instr h
      cases h
      exact ⟨rfl, rfl⟩
    | gridsel =>
      obtain ⟨k, rfl, h⟩ := Laws.oneByte_instr h
      obtain ⟨g, hg, rfl⟩ := Laws.decodeIndex_instr h
      exact ⟨rfl, by rw [encode, Laws.selectorOfIndex_some hg]⟩
    | frame =>
      obtain ⟨s0, s1, s2, g0, g1, g2, rfl, h⟩ := Laws.sixBytes_instr h
      obtain ⟨g, hg, rfl, rfl, rfl⟩ := Laws.decodeFrameOperands_instr h
      refine ⟨rfl, ?_⟩
      rw [encode, Laws.selectorOfMask_some hg, segmentMaskOf_eq_wordOf, wordBytes_wordOf, wordBytes_wordOf]
      rfl
    | selectDigit =>
      obtain ⟨c, rfl, h⟩ := Laws.oneByte_instr h
      obtain ⟨j, hj, rfl⟩ := Laws.decodeDigitCursor_instr h
      exact ⟨rfl, by rw [encode, ← hj, BitVec.ofNat_toNat, BitVec.setWidth_eq]⟩
    | selectSign =>
      obtain ⟨c, rfl, h⟩ := Laws.oneByte_instr h
      obtain ⟨rfl, rfl⟩ := Laws.decodeZeroCursor_instr h
      exact ⟨rfl, rfl⟩
    | selectSkip =>
      obtain ⟨c, rfl, h⟩ := Laws.oneByte_instr h
      obtain ⟨rfl, rfl⟩ := Laws.decodeZeroCursor_instr h
      exact ⟨rfl, rfl⟩
    | setdisp =>
      cases h
      exact ⟨rfl, rfl⟩
    | blank | latch | unblank =>
      obtain ⟨rfl, rfl⟩ := Laws.noBytes_instr h
      exact ⟨rfl, rfl⟩

/-! ### Words of the spec -/

/-- Settles O3: five closed words, decoded. -/
theorem specWordsDecode : Obligations.SpecWordsDecode := by
  unfold Obligations.SpecWordsDecode
  exact ⟨by decide, by decide, by decide, by decide, by decide⟩

end Sys2Proof.Proofs
end

section
/-! PROOFS. The characters and what is put together from them: ENC follows the row of its code, DOT stands alone, and every frame
of a selector and a character is well formed (`spec/40_character_encoder.md` R65, R66, R86 to R90; `spec/41_frame_encoder.md` R96,
R98; `spec/42_digit_selector.md` R101, R103). -/

namespace Sys2Proof.Proofs

open Sys2Proof.Machine Sys2Proof.Certificates

/-! ### ENC and its row (R65, R90) -/

theorem exec_encFallback (c : Byte) (s : State) :
    exec (.encFallback c) s = .next { s with result := .segments (fallbackMask s.config) } := rfl

theorem encode7_of_recognised {cfg : Config} {c : Byte} {ch : Chr} (h : recognise cfg c = some ch) :
    encode7 cfg c = encChr cfg ch := by
  simp only [encode7, h]

theorem decode_char8_of_recognised {cfg : Config} {c : Byte} {ch : Chr} (h : recognise cfg c = some ch) :
    decode cfg ⟨.char8, [c]⟩ = .instr (charRow ch) := by
  simp only [decode, oneByte, decodeChar, h]

theorem decode_char8_of_unrecognised {cfg : Config} {c : Byte} (h : recognise cfg c = none) :
    decode cfg ⟨.char8, [c]⟩ = .instr (.encFallback c) := by
  simp only [decode, oneByte, decodeChar, h]

/-- Settles O11: the row is that of the recognised character, or the fallback row. -/
theorem encodingFollowsItsRow : Obligations.EncodingFollowsItsRow := by
  unfold Obligations.EncodingFollowsItsRow
  intro s c
  cases h : recognise s.config c with
  | some ch =>
    exact ⟨charRow ch, decode_char8_of_recognised h, by rw [exec_charRow, exec_enc, encode7_of_recognised h]⟩
  | none =>
    have hother : ∀ ch, charCode s.config ch ≠ c := recognise_eq_none_iff.mp h
    exact ⟨.encFallback c, decode_char8_of_unrecognised h, by
      rw [exec_encFallback, exec_enc, encode7_of_unrecognised hother]⟩

theorem recognise_default_of_not_mem {c : Byte} (hc : c ∉ asciiCodes.toList) : recognise defaultConfig c = none := by
  refine recognise_eq_none_iff.mpr ?_
  rintro ch rfl
  exact hc (charCode_mem defaultConfig ch)

theorem fallbackMask_default : fallbackMask defaultConfig = 0x007700#24 := rfl

/-- Settles O9. -/
theorem unrecognisedTakesTheFallback : Obligations.UnrecognisedTakesTheFallback := by
  unfold Obligations.UnrecognisedTakesTheFallback
  intro s hcfg c hc
  refine ⟨?row, ?enc, ?decode⟩
  case row => rw [exec_encFallback, hcfg, fallbackMask_default]
  case enc => rw [exec_enc_of_not_mem_asciiCodes hcfg hc, hcfg, fallbackMask_default]
  case decode => rw [hcfg, decode_char8_of_unrecognised (recognise_default_of_not_mem hc)]

/-! ### The segment byte (R51, R66) -/

/-- ENC answers the SegmentMask of a character, for the fallback is that of 'A'. -/
theorem exists_encode7_eq_encChr (cfg : Config) (c : Byte) : ∃ ch, encode7 cfg c = encChr cfg ch := by
  cases h : recognise cfg c with
  | some ch => exact ⟨ch, encode7_of_recognised h⟩
  | none => exact ⟨.upper 0, encode7_of_unrecognised (recognise_eq_none_iff.mp h)⟩

/-- SEG_BIT places the segments A..G below DOT's bit. -/
theorem getLsbD_seven_segmentBit (cfg : Config) (lit : SegSet) (i : Fin 7) : (segmentBit cfg lit i).getLsbD 7 = false := by
  have hplace : ∀ p : Fin 7, (1#8 <<< p.val).getLsbD 7 = false := by decide
  unfold segmentBit
  split
  · exact hplace _
  · rfl

theorem getLsbD_seven_segmentByte (cfg : Config) (lit : SegSet) : (segmentByte cfg lit).getLsbD 7 = false := by
  simp only [segmentByte, BitVec.getLsbD_or, getLsbD_seven_segmentBit, Bool.or_false]

/-- A character that lights DOT lights nothing else. -/
theorem chrSegmentByte_eq_dotByte {cfg : Config} {ch : Chr} (hdot : (chrSegmentByte cfg ch).getLsbD 7 = true) :
    chrSegmentByte cfg ch = dotByte := by
  cases ch with
  | point | star => rfl
  | space => simp [chrSegmentByte] at hdot
  | digit | upper | lower | minus =>
    rw [chrSegmentByte, getLsbD_seven_segmentByte] at hdot
    cases hdot

theorem getLsbD_fifteen_segmentMaskOf (b : Byte) : (segmentMaskOf b).getLsbD 15 = b.getLsbD 7 := by
  simp [segmentMaskOf]

/-- Settles O13: the mask lies in the segment byte, whose bit 7 is DOT's. -/
theorem segmentsStayInTheirField : Obligations.SegmentsStayInTheirField := by
  unfold Obligations.SegmentsStayInTheirField
  intro s c
  obtain ⟨ch, hmask⟩ := exists_encode7_eq_encChr s.config c
  rw [encChr] at hmask
  refine ⟨_, exec_enc c s, ?outside, fun hdot => ?dot⟩
  case outside => rw [hmask, segmentMaskOf_and_not_segmentMask]
  case dot =>
    rw [hmask, getLsbD_fifteen_segmentMaskOf] at hdot
    rw [hmask, chrSegmentByte_eq_dotByte hdot]
    rfl

/-! ### Frames of a selector and a character (R98) -/

theorem oneBit_gridselMask (cfg : Config) (g : GridSel) : oneBit (gridselMask cfg g) = true := by
  have hgrid : ∀ p : Fin 8, oneBit (1#24 <<< (16 + p.val)) = true := by decide
  have hsign : ∀ p : Fin 8, oneBit (1#24 <<< p.val) = true := by decide
  cases g with
  | grid k => exact hgrid cfg.gridBit[k]
  | sign => exact hsign cfg.signBit

theorem frameOf_outside_masks (cfg : Config) (g : GridSel) (segs : Byte) :
    frameOf (gridselMask cfg g) (segmentMaskOf segs) &&& ~~~(gridMask cfg ||| segmentMask) = 0#24 := by
  have hselector : gridselMask cfg g &&& (~~~gridMask cfg &&& ~~~segmentMask) = 0#24 := by
    rw [← BitVec.and_assoc, gridselMask_and_not_gridMask, BitVec.zero_and]
  have hsegments : segmentMaskOf segs &&& (~~~gridMask cfg &&& ~~~segmentMask) = 0#24 := by
    rw [BitVec.and_comm (~~~gridMask cfg), ← BitVec.and_assoc, segmentMaskOf_and_not_segmentMask, BitVec.zero_and]
  rw [frameOf, BitVec.not_or, BitVec.and_or_distrib_right, hselector, hsegments, BitVec.or_zero]

theorem wellFormedFrame_frameOf (cfg : Config) (g : GridSel) (segs : Byte) :
    wellFormedFrame cfg (frameOf (gridselMask cfg g) (segmentMaskOf segs)) = true := by
  rw [wellFormedFrame, frameOf_and_gridMask, oneBit_gridselMask, frameOf_outside_masks]
  rfl

theorem wellFormedFrame_charFrame (cfg : Config) (g : GridSel) (c : Byte) :
    wellFormedFrame cfg (charFrame cfg g c) = true := by
  obtain ⟨ch, hmask⟩ := exists_encode7_eq_encChr cfg c
  rw [charFrame, hmask, encChr, wellFormedFrame_frameOf]

/-- Settles O17. -/
theorem charFramesAreWellFormed : Obligations.CharFramesAreWellFormed := by
  unfold Obligations.CharFramesAreWellFormed
  exact wellFormedFrame_charFrame

/-! ### The nine selectors (R96) -/

theorem exec_selectorRow (g : GridSel) (s : State) :
    exec (selectorRow g) s = .next { s with result := .selector (gridselMask s.config g) } := by
  cases g with
  | grid k => fin_cases k <;> rfl
  | sign => rfl

theorem exec_gridsel (g : GridSel) (s : State) :
    exec (.gridsel g) s = .next { s with result := .selector (gridselMask s.config g) } := rfl

/-- Each row of the table is the row, the index and the mask of its selector, and the mask lies within GRID_MASK. -/
theorem selectorRows_spell_selectors : ∀ r ∈ selectorRows, selectorRow r.2.1 = r.1 ∧ selectorIndex r.2.1 = r.2.2.1 ∧
    gridselMask defaultConfig r.2.1 = r.2.2.2 ∧ r.2.2.2 &&& 0xFF0080#24 = r.2.2.2 := by decide

theorem decode_named_gridsel (cfg : Config) (g : GridSel) :
    decode cfg ⟨.named .gridsel, [selectorIndex g]⟩ = .instr (.gridsel g) := decode_gridsel g

theorem selectorOfIndex_of_gt {k : Byte} (hk : 8 < k.toNat) : selectorOfIndex k = none := by
  refine List.find?_eq_none.mpr fun g _ hg => ?_
  have hindex : selectorIndex g = k := by simpa using hg
  have hle := toNat_selectorIndex_le g
  rw [hindex] at hle
  omega

/-- Settles O14. -/
theorem selectorMasks : Obligations.SelectorMasks := by
  unfold Obligations.SelectorMasks
  intro s hcfg
  refine ⟨?rows, fun k hk => ?other⟩
  case rows =>
    intro r hr
    obtain ⟨hrow, hindex, hmask, hwithin⟩ := selectorRows_spell_selectors r hr
    exact ⟨by rw [← hrow, exec_selectorRow, hcfg, hmask], by rw [exec_gridsel, hcfg, hmask],
      by rw [← hindex, decode_named_gridsel], by rw [← hmask, oneBit_gridselMask], hwithin⟩
  case other => simp only [decode, oneByte, decodeIndex, selectorOfIndex_of_gt hk]

/-! ### SELECT (R101, R103) -/

theorem exec_selectDigit (j : Fin 8) (s : State) :
    exec (.selectDigit j) s = .next { s with result := .selection (some (gridTable j, s.readCell (j.val + 1))) } := rfl

/-- Settles O20. -/
theorem selectDigitPosition : Obligations.SelectDigitPosition := by
  unfold Obligations.SelectDigitPosition
  refine ⟨fun s j => ?_, fun cfg => decode_selectDigit⟩
  have hgrid : 7 - j.val = 8 - (j.val + 1) := by omega
  rw [exec_selectDigit, Laws.gridTable_eq]
  simp only [hgrid]

/-- Settles O22. -/
theorem selectSkipsCellZero : Obligations.SelectSkipsCellZero := by
  unfold Obligations.SelectSkipsCellZero
  exact fun s hsign => ⟨fun hskip => by rw [exec_selectSkip, selectAt_zero_blankSign hsign hskip],
    fun hskip => by rw [exec_selectSkip, selectAt_zero_noFrame hsign hskip]⟩

theorem charFrame_sign_space_default : charFrame defaultConfig .sign (charCode defaultConfig .space) = 0x000080#24 := by
  rw [charFrame, encode7_of_charCode_eq nodup_charCode_default rfl]
  rfl

/-- Settles O24. -/
theorem skippedTickSendsNothingOfCellZero : Obligations.SkippedTickSendsNothingOfCellZero := by
  unfold Obligations.SkippedTickSendsNothingOfCellZero
  intro s hphase hidle hcursor hsign
  have hnext : nextCursor s.cursor = 1 := by rw [hcursor]; rfl
  refine ⟨fun hcfg => ?blankSign, fun hcfg => ?noFrame⟩ <;> rw [exec_tick_of_running hphase]
  case blankSign =>
    have hsel : selectAt s s.cursor = some (.sign, charCode s.config .space) := by
      rw [hcursor, selectAt_zero_blankSign hsign (by rw [hcfg]; rfl)]
    rw [serveTick_of_selected hsel hidle, hnext, hcfg, charFrame_sign_space_default]
  case noFrame =>
    have hsel : selectAt s s.cursor = none := by
      rw [hcursor, selectAt_zero_noFrame hsign (by rw [hcfg])]
    rw [serveTick_of_none_selected hsel, hnext]

/-! ### Point, degree, minus and space (R86 to R89) -/

theorem punctuationRows_spell_punctuation : ∀ r ∈ punctuationRows,
    ∃ ch ∈ [Chr.point, .star, .minus, .space], RowSpells defaultConfig r ch := by decide

theorem encode7_star_default : encode7 defaultConfig 0x2A#8 = 0x008000#24 := by
  rw [encode7_of_charCode_eq nodup_charCode_default charCode_star_default]
  rfl

theorem encode7_minus_default : encode7 defaultConfig 0x2D#8 = 0x004000#24 := by
  rw [encode7_of_charCode_eq nodup_charCode_default charCode_minus_default]
  rfl

/-- Settles O8: at index 0 the four codes are told apart by `holdsSign`; at an index 1..8 each shows its own mask. -/
theorem punctuationGlyphs : Obligations.PunctuationGlyphs := by
  unfold Obligations.PunctuationGlyphs
  intro s hcfg
  refine ⟨?rows, fun hcell => ?sign, fun hcell => ?skip,
    fun c hc => ⟨⟨8 - c.val, by omega⟩, rfl, fun hcell => ?star, fun hcell => ?minus⟩⟩
  case rows =>
    intro r hr
    obtain ⟨ch, -, hch⟩ := punctuationRows_spell_punctuation r hr
    exact holds_of_rowSpells (hcfg ▸ nodup_charCode_default) (hcfg ▸ hch)
  case sign => exact selectAt_zero_of_sign ((holdsSign_default_iff hcfg).mpr hcell.symm)
  case skip =>
    refine selectAt_zero_default_of_not_sign hcfg fun hsign => ?_
    rw [holdsSign_default_iff hcfg] at hsign
    obtain hpoint | hspace := hcell
    · rw [hpoint] at hsign
      revert hsign
      decide
    · rw [hspace] at hsign
      revert hsign
      decide
  case star => exact ⟨by rw [selectAt_of_pos s hc, hcell], by rw [charFrame, hcfg, encode7_star_default, frameOf]⟩
  case minus => exact ⟨by rw [selectAt_of_pos s hc, hcell], by rw [charFrame, hcfg, encode7_minus_default, frameOf]⟩

end Sys2Proof.Proofs
end

section
/-! PROOFS. Everything an operation can do to the state, said once (`Effect`), and what follows for single fields: who writes the
cursor and the buffer, that the configuration stays, that the buffer stays canonical (`spec/10_state.md` R15, R16, R26;
`spec/70_reset_and_hazards.md` R156). -/

namespace Sys2Proof.Proofs

open Sys2Proof.Machine Sys2Proof.Safety Sys2Proof.Certificates

/-! ### The states that RESET, STOP and the end of a burst leave -/

/-- What RESET leaves (R156). -/
def afterReset (s : State) : State :=
  { s with cursor := 0, mem := [], phase := .init, tx := .idle, txf := Config.txfAfterReset s.draws, blank := true, freeze := true,
           latch := Config.latchAfterReset s.draws, draws := s.draws + 1 }

/-- What STOP leaves (R119). -/
def afterStop (s : State) : State :=
  { s with phase := .stopped, blank := true, tx := .idle, trace := s.trace ++ [.blank] }

/-- What the end of a burst leaves (R126). -/
def afterBurst (s : State) : State :=
  { s with latch := s.txf, freeze := true, blank := false, tx := .idle, trace := s.trace ++ [.latch, .unblank] }

theorem exec_reset (s : State) : exec .reset s = .next (afterReset s) := rfl

theorem exec_stop_eq_afterStop (s : State) : exec .stop s = .next (afterStop s) := rfl

/-! ### One inversion for every operation -/

/-- What an operation that answers has done to the state: one case for each kind of update. -/
inductive Effect (s : State) : Instr → State → Prop
  /-- A pure function (R16). -/
  | answers {i : Instr} (hpure : isPure i = true) (r : Result) : Effect s i (s.deliver r)
  | resets : Effect s .reset (afterReset s)
  | stops : Effect s .stop (afterStop s)
  | starts (hphase : s.phase = .init) : Effect s .start { s with phase := .running }
  | writes {a : BitVec 4} (v : Byte) (ha : a.toNat < bufLen) : Effect s (.wrch a v) (s.writeCell a.toNat v)
  | queues (text : List Byte) :
      Effect s (.setdisp text) { s with producer := s.producer ++ setdispWrites s.config text }
  /-- A served tick that sends nothing: the transport is busy, or SELECT is not valid (R113, R103). -/
  | advances (hphase : s.phase = .running) : Effect s .tick { s with cursor := nextCursor s.cursor }
  /-- A served tick that sends (R108). -/
  | sends (hphase : s.phase = .running) (hidle : s.tx = .idle) (g : GridSel) (ch : Byte) :
      Effect s .tick (afterSend s (nextCursor s.cursor) (charFrame s.config g ch))
  | endsBurst (hbusy : s.tx = .shifting) : Effect s .txdone (afterBurst s)
  /-- An input event with no effect: START outside INIT, TICK outside RUNNING, TXDONE on an idle transport, WRCH outside the
  buffer. -/
  | ignored {i : Instr} (hout : isOutsideOp i = true) : Effect s i s
  /-- SEND and the output primitives (log 14). -/
  | outputs {i : Instr} {t : State} (hin : isOutsideOp i = false)
      (ht : t = { s with tx := t.tx, txf := t.txf, blank := t.blank, freeze := t.freeze, latch := t.latch, trace := t.trace }) :
      Effect s i t

section
variable {s t : State} {i : Instr}

theorem effect_start (h : exec .start s = .next t) : Effect s .start t := by
  by_cases hphase : s.phase = .init
  · cases (exec_start_of_init hphase).symm.trans h
    exact .starts hphase
  · cases (exec_start_of_not_init hphase).symm.trans h
    exact .ignored rfl

theorem effect_wrch {a : BitVec 4} {v : Byte} (h : exec (.wrch a v) s = .next t) : Effect s (.wrch a v) t := by
  by_cases ha : a.toNat < bufLen
  · cases (exec_wrch_of_lt ha v s).symm.trans h
    exact .writes v ha
  · cases (exec_wrch_of_ge (not_lt.mp ha) v s).symm.trans h
    exact .ignored rfl

theorem effect_txdone (h : exec .txdone s = .next t) : Effect s .txdone t := by
  cases htx : s.tx with
  | idle =>
    cases (exec_txdone_of_idle htx).symm.trans h
    exact .ignored rfl
  | shifting =>
    cases (exec_txdone_of_shifting htx).symm.trans h
    exact .endsBurst htx

theorem effect_tick (h : exec .tick s = .next t) : Effect s .tick t := by
  by_cases hphase : s.phase = .running
  · cases (exec_tick_of_running hphase).symm.trans h
    cases htx : s.tx with
    | shifting =>
      rw [serveTick_of_busy htx]
      exact .advances hphase
    | idle =>
      cases hsel : selectAt s s.cursor with
      | none =>
        rw [serveTick_of_none_selected hsel]
        exact .advances hphase
      | some p =>
        rw [serveTick_of_selected hsel htx]
        exact .sends hphase htx p.1 p.2
  · cases (exec_tick_of_not_running hphase).symm.trans h
    exact .ignored rfl

theorem effect_sendFrame {f : Word24} (h : exec (.sendFrame f) s = .next t) : Effect s (.sendFrame f) t := by
  have hexec : exec (.sendFrame f) s = .next (dispatch f s) := rfl
  cases hexec.symm.trans h
  obtain ⟨-, hsent⟩ | ⟨-, hdropped⟩ := Laws.dispatch_cases f s
  · exact .outputs rfl (by rw [hsent])
  · exact .outputs rfl (by rw [hdropped])

theorem exec_effect (h : exec i s = .next t) : Effect s i t := by
  by_cases hpure : isPure i = true
  · obtain ⟨r, hexec⟩ := exec_of_isPure hpure s
    cases hexec.symm.trans h
    exact .answers hpure r
  · cases i with
    | reset => cases h; exact .resets
    | stop => cases h; exact .stops
    | start => exact effect_start h
    | txdone => exact effect_txdone h
    | tick => exact effect_tick h
    | wrch => exact effect_wrch h
    | setdisp text => cases h; exact .queues text
    | sendFrame => exact effect_sendFrame h
    | blank | send | latch | unblank => cases h; exact .outputs rfl rfl
    | _ => exact absurd rfl hpure

/-! ### Single fields -/

theorem exec_config (h : exec i s = .next t) : t.config = s.config := by
  cases exec_effect h with
  | outputs _ ht => rw [ht]
  | _ => rfl

theorem exec_inputs (h : exec i s = .next t) : t.inputs = s.inputs := by
  cases exec_effect h with
  | outputs _ ht => rw [ht]
  | _ => rfl

theorem exec_cursor (h : exec i s = .next t) (hcursor : t.cursor ≠ s.cursor) : i = .tick ∨ i = .reset := by
  cases exec_effect h with
  | resets => exact .inr rfl
  | advances | sends => exact .inl rfl
  | outputs _ ht => rw [ht] at hcursor; exact absurd rfl hcursor
  | _ => exact absurd rfl hcursor

theorem exec_mem (h : exec i s = .next t) (hmem : t.mem ≠ s.mem) : i = .reset ∨ ∃ a v, i = .wrch a v := by
  cases exec_effect h with
  | resets => exact .inl rfl
  | writes v => exact .inr ⟨_, v, rfl⟩
  | outputs _ ht => rw [ht] at hmem; exact absurd rfl hmem
  | _ => exact absurd rfl hmem

theorem exec_producer (h : exec i s = .next t) (hproducer : t.producer ≠ s.producer) : ∃ text, i = .setdisp text := by
  cases exec_effect h with
  | queues text => exact ⟨text, rfl⟩
  | outputs _ ht => rw [ht] at hproducer; exact absurd rfl hproducer
  | _ => exact absurd rfl hproducer

/-- The phase moves to RUNNING or STOPPED, or RESET moves it (R17). -/
theorem exec_phase (h : exec i s = .next t) :
    i = .reset ∨ t.phase = s.phase ∨ t.phase = .running ∨ t.phase = .stopped := by
  cases exec_effect h with
  | resets => exact .inl rfl
  | stops => exact .inr (.inr (.inr rfl))
  | starts => exact .inr (.inr (.inl rfl))
  | outputs _ ht => rw [ht]; exact .inr (.inl rfl)
  | _ => exact .inr (.inl rfl)

/-- The reset content empties the list, a write stays within the buffer, and no other operation touches the cells. -/
theorem exec_keeps_wf (hs : Memory.wf s.unlisted s.mem) (h : exec i s = .next t) : Memory.wf t.unlisted t.mem := by
  cases exec_effect h with
  | resets => exact Laws.wf_nil
  | writes v ha => exact Laws.wf_write hs ha
  | outputs _ ht => rw [ht]; exact hs
  | _ => exact hs

end

/-- WRCH does not look at the cursor (R15). -/
theorem exec_wrch_with_cursor (a : BitVec 4) (v : Byte) (s : State) (c : Fin 9) :
    ∃ t, exec (.wrch a v) s = .next t ∧ exec (.wrch a v) { s with cursor := c } = .next { t with cursor := c } := by
  by_cases ha : a.toNat < bufLen
  · exact ⟨_, exec_wrch_of_lt ha v s, exec_wrch_of_lt ha v { s with cursor := c }⟩
  · exact ⟨s, exec_wrch_of_ge (not_lt.mp ha) v s, exec_wrch_of_ge (not_lt.mp ha) v { s with cursor := c }⟩

/-- Settles O48. -/
theorem whoMayWriteWhat : Obligations.WhoMayWriteWhat := by
  unfold Obligations.WhoMayWriteWhat
  refine ⟨fun i s t h => ⟨exec_cursor h, exec_mem h, exec_producer h⟩, fun s t a v c h => ?_⟩
  obtain ⟨t', hexec, hmoved⟩ := exec_wrch_with_cursor a v s c
  cases hexec.symm.trans h
  exact hmoved

/-- Settles O47. -/
theorem pureFunctionsWriteNoState : Obligations.PureFunctionsWriteNoState := by
  unfold Obligations.PureFunctionsWriteNoState
  exact fun i s hpure => exec_of_isPure hpure s

/-! ### RESET (R26, R156) -/

theorem readCell_afterReset (s : State) (a : Nat) : (afterReset s).readCell a = s.config.resetChar := rfl

/-- With BLANK at 1 the tube is dark (R20). -/
theorem visible_of_blank {s : State} (hblank : s.blank = true) : s.visible = 0x000000#24 := by
  simp [State.visible, hblank]

/-- Settles O44. -/
theorem resetTakesTheResetValues : Obligations.ResetTakesTheResetValues := by
  unfold Obligations.ResetTakesTheResetValues
  refine ⟨fun i s t hphase h hinit => ?onlyReset, fun s => ⟨afterReset s, exec_reset s, rfl, readCell_afterReset s, ?default,
    visible_of_blank rfl⟩⟩
  case onlyReset =>
    obtain hreset | hsame | hrunning | hstopped := exec_phase h
    · exact hreset
    · exact absurd (hsame.symm.trans hinit) hphase
    · cases hrunning.symm.trans hinit
    · cases hstopped.symm.trans hinit
  case default =>
    intro hcfg a
    rw [readCell_afterReset, hcfg]
    rfl

/-- Settles O45: no cell is listed, and each other value is a field of `State.reset`. -/
theorem resetStateHoldsTheResetValues : Obligations.ResetStateHoldsTheResetValues := by
  unfold Obligations.ResetStateHoldsTheResetValues
  exact ⟨rfl, fun _ _ => rfl, rfl, rfl, rfl, rfl, rfl⟩

/-! ### A step: an operation on the state with other lists of what is to come -/

/-- The state with other lists of operations and writes to come; the block's own state stays. -/
def withQueues (s : State) (ins : List Request) (ps : List CellWrite) : State := { s with inputs := ins, producer := ps }

/-- Only operations of the surroundings are to come (R171; log 14). -/
def OnlyOutside (ins : List Request) : Prop := ins.all requestAllowed = true

theorem isOutsideOp_eq_mayBeAsked (cfg : Config) (i : Instr) : isOutsideOp i = mayBeAsked (encode cfg i).kind := by
  cases i <;> rfl

/-- A word of a kind the surroundings may ask for is an operation of the surroundings: outside samples because the word is that
of its instruction, in a sample because it is one of the six events. -/
theorem isOutsideOp_of_decode {cfg : Config} {w : OpWord} {i : Instr} (hw : mayBeAsked w.kind = true)
    (h : decode cfg w = .instr i) : isOutsideOp i = true := by
  by_cases hkind : w.kind = .event6
  · obtain ⟨kind, bs⟩ := w
    subst hkind
    obtain ⟨ev, idx, ch, rfl, h⟩ := Laws.threeBytes_instr h
    obtain rfl | rfl | rfl | rfl | rfl | rfl := decodeSample_instr h <;> rfl
  · rw [isOutsideOp_eq_mayBeAsked cfg, (eachWordHasOneMeaning cfg w i h).2 hkind]
    exact hw

theorem onlyOutside_restOfSample (w : OpWord) : OnlyOutside (restOfSample w) := by
  unfold OnlyOutside restOfSample
  split
  · split <;> rfl
  · rfl

theorem onlyOutside_cons {r : Request} {ins : List Request} (h : OnlyOutside (r :: ins)) :
    requestAllowed r = true ∧ OnlyOutside ins := by
  simpa [OnlyOutside] using h

theorem onlyOutside_append {ins ins' : List Request} (h : OnlyOutside ins) (h' : OnlyOutside ins') :
    OnlyOutside (ins ++ ins') := by
  rw [OnlyOutside, List.all_append, h, h', Bool.and_self]

/-- What a step can have done: it only moved on in the lists of what is to come, or it performed one operation besides. -/
def StepEffect (s t : State) : Prop :=
  ∃ ins ps, (OnlyOutside s.inputs → OnlyOutside ins) ∧
    (t = withQueues s ins ps ∨
      ∃ i, (OnlyOutside s.inputs → isOutsideOp i = true) ∧ exec i (withQueues s ins ps) = .next t)

theorem stepEffect_of_producerTurn {s t : State} {ins : List Request} (hins : OnlyOutside s.inputs → OnlyOutside ins)
    (h : producerTurn { s with inputs := ins } = .next t) : StepEffect s t := by
  obtain ⟨-, hturn⟩ | ⟨w, ws, -, hturn⟩ := Laws.producerTurn_cases { s with inputs := ins }
  · cases hturn.symm.trans h
    exact ⟨ins, s.producer, hins, .inl rfl⟩
  · exact ⟨ins, ws, hins, .inr ⟨.wrch w.index w.char, fun _ => rfl, hturn.symm.trans h⟩⟩

theorem stepEffect_of_step {s t : State} (h : step s = .next t) : StepEffect s t := by
  obtain ⟨-, hturn⟩ | ⟨rest, hinputs, hturn⟩ | ⟨w, rest, i, hinputs, hdecode, -, hexec⟩ | ⟨w, rest, hinputs, -, rfl⟩ :=
    Laws.step_cases h
  · exact stepEffect_of_producerTurn id hturn
  · exact stepEffect_of_producerTurn (fun hall => (onlyOutside_cons (hinputs ▸ hall)).2) hturn
  · refine ⟨restOfSample w ++ rest, s.producer, fun hall => ?_, .inr ⟨i, fun hall => ?_, hexec⟩⟩
    · exact onlyOutside_append (onlyOutside_restOfSample w) (onlyOutside_cons (hinputs ▸ hall)).2
    · have hw : requestAllowed (.word w) = true := (onlyOutside_cons (hinputs ▸ hall)).1
      exact isOutsideOp_of_decode hw hdecode
  · exact ⟨rest, s.producer, fun hall => (onlyOutside_cons (hinputs ▸ hall)).2, .inl rfl⟩

/-- Settles O49. -/
theorem configurationIsNeverWritten : Obligations.ConfigurationIsNeverWritten := by
  unfold Obligations.ConfigurationIsNeverWritten
  intro s t h
  obtain ⟨ins, ps, -, rfl | ⟨i, -, hexec⟩⟩ := stepEffect_of_step h
  · rfl
  · exact exec_config (s := withQueues s ins ps) hexec

/-- Settles O50. -/
theorem everyStepKeepsCellsCanonical : Obligations.EveryStepKeepsCellsCanonical := by
  unfold Obligations.EveryStepKeepsCellsCanonical
  intro s t hs h
  obtain ⟨ins, ps, -, rfl | ⟨i, -, hexec⟩⟩ := stepEffect_of_step h
  · exact hs
  · exact exec_keeps_wf (s := withQueues s ins ps) hs hexec

/-! ### The canonical form says the cells (log 17) -/

/-- With rising indexes, an entry is listed exactly where reading answers its value and not the content of an unlisted cell. -/
theorem mem_iff_read {d : Byte} {m : Memory} (hm : Memory.wf d m) (a : Nat) (v : Byte) :
    (a, v) ∈ m ↔ v ≠ d ∧ Memory.read d m a = v := by
  obtain ⟨hrising, hcells⟩ := hm
  induction m with
  | nil => simp [Memory.read, eq_comm]
  | cons c m ih =>
    obtain ⟨k, w⟩ := c
    obtain ⟨hbelow, hrising⟩ := List.pairwise_cons.mp hrising
    obtain ⟨⟨hw, -⟩, hcells⟩ := List.forall_mem_cons.mp hcells
    rw [List.mem_cons, Memory.read]
    by_cases hk : k = a
    · subst hk
      have hlater : (k, v) ∉ m := fun hmem => lt_irrefl k (hbelow _ hmem)
      simp only [Prod.mk.injEq, true_and, hlater, or_false, if_pos]
      exact ⟨fun h => ⟨h ▸ hw, h.symm⟩, fun h => h.2.symm⟩
    · rw [if_neg hk, ← ih hrising hcells]
      simp [Ne.symm hk]

theorem nodup_of_wf {d : Byte} {m : Memory} (hm : Memory.wf d m) : m.Nodup :=
  hm.1.imp fun hlt heq => absurd (heq ▸ hlt) (lt_irrefl _)

/-- Settles O51: both lists have the same entries, in the same order. -/
theorem canonicalCellsAreDetermined : Obligations.CanonicalCellsAreDetermined := by
  unfold Obligations.CanonicalCellsAreDetermined
  intro d m n hm hn hread
  have hperm : m.Perm n := by
    rw [List.perm_ext_iff_of_nodup (nodup_of_wf hm) (nodup_of_wf hn)]
    exact fun c => by rw [mem_iff_read hm, mem_iff_read hn, hread]
  exact hperm.eq_of_pairwise (fun x y _ _ hxy hyx => absurd hxy (lt_asymm hyx)) hm.1 hn.1

end Sys2Proof.Proofs
end

section
/-! PROOFS. What an operation of the surroundings does to the outputs and the transport, in five cases, and what follows for one
operation, for the trace of a run and for a stopped block (`spec/44_blanking_synchronizer.md` R123 to R135,
`spec/43_refresh_scheduler.md` R119, R120). -/

namespace Sys2Proof.Proofs

open Sys2Proof.Machine Sys2Proof.Safety Sys2Proof.Certificates

/-! ### SEND and the output primitives, asked for by name (R123 to R128; log 14) -/

/-- Settles O37. -/
theorem sendAcceptsOrDrops : Obligations.SendAcceptsOrDrops := by
  unfold Obligations.SendAcceptsOrDrops
  intro s f
  have hexec : exec (.sendFrame f) s = .next (dispatch f s) := rfl
  obtain ⟨hidle, hsent⟩ | ⟨hbusy, hdropped⟩ := Laws.dispatch_cases f s
  · have hnot_busy : s.tx ≠ .shifting := by simp [hidle]
    exact ⟨fun _ => by rw [hexec, hsent], fun hbusy => absurd hbusy hnot_busy⟩
  · have hnot_idle : s.tx ≠ .idle := by simp [hbusy]
    exact ⟨fun hidle => absurd hidle hnot_idle, fun _ => by rw [hexec, hdropped]⟩

theorem exec_blank (s : State) : exec .blank s = .next { s with blank := true, trace := s.trace ++ [.blank] } := rfl

/-- Settles O39. -/
theorem blankOutputDarkens : Obligations.BlankOutputDarkens := by
  unfold Obligations.BlankOutputDarkens
  exact fun s => ⟨_, exec_blank s, rfl, visible_of_blank rfl, exec_blank _⟩

theorem exec_send (f : Word24) (s : State) :
    exec (.send f) s = .next { s with txf := f, tx := .shifting, trace := s.trace ++ [.send f] } := rfl

theorem exec_latch (s : State) :
    exec .latch s = .next { s with latch := s.txf, freeze := true, trace := s.trace ++ [.latch] } := rfl

theorem exec_unblank (s : State) : exec .unblank s = .next { s with blank := false, trace := s.trace ++ [.unblank] } := rfl

/-- Settles O40. -/
theorem sendLatchUnblankOutputs : Obligations.SendLatchUnblankOutputs := by
  unfold Obligations.SendLatchUnblankOutputs
  exact fun s f => ⟨exec_send f s, exec_latch s, exec_unblank s⟩

/-! ### The five things an operation of the surroundings can do to the outputs -/

/-- The outputs, the transport and the configuration are as they were; the phase may have become RUNNING. -/
structure SameOutputs (s t : State) : Prop where
  config : t.config = s.config
  tx     : t.tx = s.tx
  txf    : t.txf = s.txf
  blank  : t.blank = s.blank
  freeze : t.freeze = s.freeze
  latch  : t.latch = s.latch
  trace  : t.trace = s.trace
  phase  : t.phase = s.phase ∨ t.phase = .running

/-- What an operation of the surroundings has done to the outputs. -/
inductive OutputEffect (s : State) : Instr → State → Prop
  | nothing {i : Instr} {t : State} (hsame : SameOutputs s t) : OutputEffect s i t
  | reset : OutputEffect s .reset (afterReset s)
  | stop : OutputEffect s .stop (afterStop s)
  | send (hphase : s.phase = .running) (hidle : s.tx = .idle) (g : GridSel) (ch : Byte) :
      OutputEffect s .tick (afterSend s (nextCursor s.cursor) (charFrame s.config g ch))
  | burst (hbusy : s.tx = .shifting) : OutputEffect s .txdone (afterBurst s)

section
variable {s t : State} {i : Instr}

theorem exec_outputEffect (hi : isOutsideOp i = true) (h : exec i s = .next t) : OutputEffect s i t := by
  cases exec_effect h with
  | answers | writes | queues | advances | ignored => exact .nothing ⟨rfl, rfl, rfl, rfl, rfl, rfl, rfl, .inl rfl⟩
  | starts => exact .nothing ⟨rfl, rfl, rfl, rfl, rfl, rfl, rfl, .inr rfl⟩
  | resets => exact .reset
  | stops => exact .stop
  | sends hphase hidle g ch => exact .send hphase hidle g ch
  | endsBurst hbusy => exact .burst hbusy
  | outputs hin => cases hi.symm.trans hin

theorem newEvents_of_trace_eq_append {es : List Event} (h : t.trace = s.trace ++ es) : newEvents s t = es := by
  rw [newEvents, h, List.drop_left]

theorem newEvents_of_sameOutputs (h : SameOutputs s t) : newEvents s t = [] :=
  newEvents_of_trace_eq_append (by rw [h.trace, List.append_nil])

@[simp] theorem newEvents_afterReset : newEvents s (afterReset s) = [] :=
  newEvents_of_trace_eq_append (List.append_nil _).symm

@[simp] theorem newEvents_afterStop : newEvents s (afterStop s) = [.blank] :=
  newEvents_of_trace_eq_append rfl

@[simp] theorem newEvents_afterSend (c : Fin 9) (f : Word24) : newEvents s (afterSend s c f) = [.blank, .send f] :=
  newEvents_of_trace_eq_append rfl

@[simp] theorem newEvents_afterBurst : newEvents s (afterBurst s) = [.latch, .unblank] :=
  newEvents_of_trace_eq_append rfl

/-! ### One operation (R120, R128, R135) -/

/-- Settles O41: of the five cases only the end of a burst clears BLANK or emits `unblank`. -/
theorem onlyTxdoneUnblanks : Obligations.OnlyTxdoneUnblanks := by
  unfold Obligations.OnlyTxdoneUnblanks
  intro i s t hi h
  cases exec_outputEffect hi h with
  | nothing hsame =>
    refine ⟨fun hdark hlit => ?_, fun hmem => ?_⟩
    · rw [hsame.blank, hdark] at hlit
      cases hlit
    · simp [newEvents_of_sameOutputs hsame] at hmem
  | reset => exact ⟨fun _ => nofun, fun hmem => by simp at hmem⟩
  | stop => exact ⟨fun _ => nofun, fun hmem => by simp at hmem⟩
  | send => exact ⟨fun _ => nofun, fun hmem => by simp at hmem⟩
  | burst hbusy => exact ⟨fun _ _ => ⟨rfl, hbusy⟩, fun _ => ⟨rfl, newEvents_afterBurst⟩⟩

/-- Settles O42: of the five cases only a served tick on an idle transport sends, and only STOP, RESET and the end of a burst
release a busy one. -/
theorem oneFrameInFlight : Obligations.OneFrameInFlight := by
  unfold Obligations.OneFrameInFlight
  intro i s t hi h
  cases exec_outputEffect hi h with
  | nothing hsame =>
    refine ⟨fun f hmem => ?_, fun _ _ => hsame.txf, fun hbusy hidle => ?_⟩
    · simp [newEvents_of_sameOutputs hsame] at hmem
    · rw [hsame.tx, hbusy] at hidle
      cases hidle
  | reset => exact ⟨fun f hmem => by simp at hmem, fun _ => nofun, fun _ _ => .inr (.inr rfl)⟩
  | stop => exact ⟨fun f hmem => by simp at hmem, fun _ => nofun, fun _ _ => .inr (.inl rfl)⟩
  | send _ hidle g ch =>
    have hnot_busy : s.tx ≠ .shifting := by simp [hidle]
    refine ⟨fun f hmem => ?_, fun hbusy => absurd hbusy hnot_busy, fun _ => nofun⟩
    obtain rfl : f = charFrame s.config g ch := by simpa using hmem
    exact ⟨rfl, hidle, rfl, rfl, newEvents_afterSend _ _⟩
  | burst => exact ⟨fun f hmem => by simp at hmem, fun _ => nofun, fun _ _ => .inl rfl⟩

end

/-! ### The trace of a run without RESET and STOP (R129) -/

/-- Since a trace `old` only whole transmissions, and besides the two events of a frame that is still in flight. -/
def TransmittedSince (old : List Event) (t : State) : Prop :=
  ∃ fs, (t.tx = .idle ∧ t.trace = old ++ transmissions fs) ∨
    ∃ f, t.tx = .shifting ∧ t.trace = old ++ (transmissions fs ++ [.blank, .send f])

theorem transmissions_concat (fs : List Word24) (f : Word24) :
    transmissions (fs ++ [f]) = transmissions fs ++ [.blank, .send f] ++ [.latch, .unblank] := by
  simp [transmissions]

theorem exec_keeps_transmittedSince {old : List Event} {i : Instr}
    (hi : isOutsideOp i = true ∧ i ≠ .reset ∧ i ≠ .stop) {s : State} (hs : TransmittedSince old s) :
    ∃ t, exec i s = .next t ∧ TransmittedSince old t := by
  obtain ⟨hout, hreset, hstop⟩ := hi
  obtain ⟨t, h⟩ := exec_answers i s
  refine ⟨t, h, ?_⟩
  obtain ⟨fs, hfs⟩ := hs
  cases exec_outputEffect hout h with
  | nothing hsame => exact ⟨fs, by rw [hsame.tx, hsame.trace]; exact hfs⟩
  | reset => exact absurd rfl hreset
  | stop => exact absurd rfl hstop
  | send _ hidle g ch =>
    obtain ⟨-, htrace⟩ | ⟨f, hbusy, -⟩ := hfs
    · exact ⟨fs, .inr ⟨charFrame s.config g ch, rfl, by rw [← List.append_assoc, ← htrace]; rfl⟩⟩
    · cases hidle.symm.trans hbusy
  | burst hbusy =>
    obtain ⟨hidle, -⟩ | ⟨f, -, htrace⟩ := hfs
    · cases hidle.symm.trans hbusy
    · refine ⟨fs ++ [f], .inl ⟨rfl, ?_⟩⟩
      rw [transmissions_concat, ← List.append_assoc, ← htrace]
      rfl

/-- What is added since is a beginning of whole transmissions: the frame in flight would complete the last one. -/
theorem exists_beginning_of_transmittedSince {old : List Event} {t : State} (ht : TransmittedSince old t) :
    ∃ fs tr, t.trace = old ++ tr ∧ tr <+: transmissions fs := by
  obtain ⟨fs, ⟨-, htrace⟩ | ⟨f, -, htrace⟩⟩ := ht
  · exact ⟨fs, _, htrace, List.prefix_rfl⟩
  · exact ⟨fs ++ [f], _, htrace, by rw [transmissions_concat]; exact List.prefix_append _ _⟩

theorem filter_transmissions (fs : List Word24) :
    (transmissions fs).filter (· ≠ .latch) = fs.flatMap fun f => [.blank, .send f, .unblank] := by
  rw [transmissions, List.filter_flatMap]
  rfl

/-- Settles O43. -/
theorem everySendIsBracketed : Obligations.EverySendIsBracketed := by
  unfold Obligations.EverySendIsBracketed
  intro ops s s0 hreset hops
  cases (exec_reset s).symm.trans hreset
  have hstart : TransmittedSince (afterReset s).trace (afterReset s) := ⟨[], .inl ⟨rfl, (List.append_nil _).symm⟩⟩
  obtain ⟨t, hrun, ht⟩ := runOps_keeps exec_keeps_transmittedSince ops hops hstart
  obtain ⟨fs, tr, htrace, hbegin⟩ := exists_beginning_of_transmittedSince ht
  exact ⟨t, tr, hrun, htrace, ⟨fs, hbegin⟩, fs, by rw [← filter_transmissions]; exact hbegin.filter _⟩

/-! ### A stopped block (R119, R172) -/

/-- The state with other cells, writes to come and answer, and n further `blank` events. -/
def darkened (s : State) (m : Memory) (ps : List CellWrite) (r : Result) (n : Nat) : State :=
  { s with mem := m, producer := ps, result := r, trace := s.trace ++ List.replicate n .blank }

/-- What operations of the surroundings other than RESET make of a stopped block. -/
def DarkenedFrom (s t : State) : Prop := ∃ m ps r n, t = darkened s m ps r n

theorem afterStop_darkened {s : State} (hs : IsStopped s) (m : Memory) (ps : List CellWrite) (r : Result) (n : Nat) :
    afterStop (darkened s m ps r n) = darkened s m ps r (n + 1) := by
  obtain ⟨hphase, hblank, hidle⟩ := hs
  simp [afterStop, darkened, hphase, hblank, hidle, List.replicate_succ']

theorem exec_keeps_darkenedFrom {s : State} (hs : IsStopped s) {i : Instr} (hi : isOutsideOp i = true ∧ i ≠ .reset) {t : State}
    (ht : DarkenedFrom s t) : ∃ u, exec i t = .next u ∧ DarkenedFrom s u := by
  obtain ⟨hout, hreset⟩ := hi
  obtain ⟨m, ps, r, n, rfl⟩ := ht
  obtain ⟨u, h⟩ := exec_answers i (darkened s m ps r n)
  refine ⟨u, h, ?_⟩
  cases exec_effect h with
  | answers _ r' => exact ⟨m, ps, r', n, rfl⟩
  | resets => exact absurd rfl hreset
  | stops => exact ⟨m, ps, r, n + 1, afterStop_darkened hs m ps r n⟩
  | starts hphase => cases hs.phase_stopped.symm.trans hphase
  | writes => exact ⟨_, ps, r, n, rfl⟩
  | queues => exact ⟨m, _, r, n, rfl⟩
  | advances hphase => cases hs.phase_stopped.symm.trans hphase
  | sends hphase => cases hs.phase_stopped.symm.trans hphase
  | endsBurst hbusy => cases hs.tx_idle.symm.trans hbusy
  | ignored => exact ⟨m, ps, r, n, rfl⟩
  | outputs hin => cases hout.symm.trans hin

/-- Settles O36. -/
theorem stoppedBlockStaysDark : Obligations.StoppedBlockStaysDark := by
  unfold Obligations.StoppedBlockStaysDark
  intro ops s hphase hidle hblank hops
  have hstart : DarkenedFrom s s := ⟨s.mem, s.producer, s.result, 0, by simp [darkened]⟩
  obtain ⟨t, hrun, m, ps, r, n, rfl⟩ := runOps_keeps (exec_keeps_darkenedFrom ⟨hphase, hblank, hidle⟩) ops hops hstart
  exact ⟨_, hrun, visible_of_blank hblank, n, rfl⟩

end Sys2Proof.Proofs
end

section
/-! PROOFS. The invariants of R27: they hold at reset, every step keeps them, and with them nothing garbled is ever visible
(`spec/10_state.md` section 4; `spec/44_blanking_synchronizer.md` R130, R131). -/

namespace Sys2Proof.Proofs

open Sys2Proof.Machine Sys2Proof.Safety Sys2Proof.Certificates

/-! ### The last frame sent and the last frame latched -/

theorem traceFrames_blank_send (tr : List Event) (f : Word24) :
    traceFrames (tr ++ [.blank, .send f]) = (some f, (traceFrames tr).2) := by
  simp [traceFrames, noteEvent]

theorem traceFrames_latch_unblank (tr : List Event) :
    traceFrames (tr ++ [.latch, .unblank]) = ((traceFrames tr).1, (traceFrames tr).1) := by
  simp [traceFrames, noteEvent]

/-! ### One operation -/

section
variable {s t : State}

/-- With the outputs as they were, the invariants stay; a phase that has become RUNNING only helps them. -/
theorem blockInv_of_sameOutputs (hs : BlockInv s) (hinputs : OnlyOutside t.inputs) (hcells : Memory.wf t.unlisted t.mem)
    (hsame : SameOutputs s t) : BlockInv t := by
  have hrunning : s.phase = .running → t.phase = .running := by
    obtain hphase | hphase := hsame.phase
    · exact fun h => hphase.trans h
    · exact fun _ => hphase
  exact {
    inputs_allowed := hinputs
    cells_canonical := hcells
    freeze_holds := by rw [hsame.freeze]; exact hs.freeze_holds
    burst_blanked := by rw [hsame.tx, hsame.blank]; exact hs.burst_blanked
    burst_running := by rw [hsame.tx]; exact fun h => hrunning (hs.burst_running h)
    burst_frame := by rw [hsame.tx, hsame.config, hsame.txf]; exact hs.burst_frame
    burst_sent := by rw [hsame.tx, hsame.trace, hsame.txf]; exact hs.burst_sent
    lit_running := by rw [hsame.blank, hsame.tx]; exact fun h => (hs.lit_running h).imp_left hrunning
    lit_latched := by rw [hsame.blank, hsame.trace, hsame.latch]; exact hs.lit_latched
    lit_frame := by rw [hsame.blank, hsame.config, hsame.latch]; exact hs.lit_frame }

/-- A dark tube over an idle transport has the invariants. -/
theorem blockInv_of_dark_idle (hinputs : OnlyOutside t.inputs) (hcells : Memory.wf t.unlisted t.mem) (hfreeze : t.freeze = true)
    (hblank : t.blank = true) (hidle : t.tx = .idle) : BlockInv t := by
  have hno_burst : t.tx ≠ .shifting := by simp [hidle]
  have hnot_lit : t.blank ≠ false := by simp [hblank]
  exact {
    inputs_allowed := hinputs
    cells_canonical := hcells
    freeze_holds := hfreeze
    burst_blanked := fun h => absurd h hno_burst
    burst_running := fun h => absurd h hno_burst
    burst_frame := fun h => absurd h hno_burst
    burst_sent := fun h => absurd h hno_burst
    lit_running := fun h => absurd h hnot_lit
    lit_latched := fun h => absurd h hnot_lit
    lit_frame := fun h => absurd h hnot_lit }

/-- A frame of a selector and a character goes into flight, with the tube dark. -/
theorem blockInv_afterSend (hs : BlockInv s) (hphase : s.phase = .running) (c : Fin 9) (g : GridSel) (ch : Byte) :
    BlockInv (afterSend s c (charFrame s.config g ch)) where
  inputs_allowed := hs.inputs_allowed
  cells_canonical := hs.cells_canonical
  freeze_holds := hs.freeze_holds
  burst_blanked _ := rfl
  burst_running _ := hphase
  burst_frame _ := wellFormedFrame_charFrame s.config g ch
  burst_sent _ := congrArg Prod.fst (traceFrames_blank_send s.trace _)
  lit_running := nofun
  lit_latched := nofun
  lit_frame := nofun

/-- The frame in flight, well formed and the last one sent, is latched and shown. -/
theorem blockInv_afterBurst (hs : BlockInv s) (hbusy : s.tx = .shifting) : BlockInv (afterBurst s) where
  inputs_allowed := hs.inputs_allowed
  cells_canonical := hs.cells_canonical
  freeze_holds := rfl
  burst_blanked := nofun
  burst_running := nofun
  burst_frame := nofun
  burst_sent := nofun
  lit_running _ := ⟨hs.burst_running hbusy, rfl⟩
  lit_latched _ := (congrArg Prod.snd (traceFrames_latch_unblank s.trace)).trans (hs.burst_sent hbusy)
  lit_frame _ := hs.burst_frame hbusy

theorem exec_keeps_blockInv {i : Instr} (hi : isOutsideOp i = true) (hs : BlockInv s) (h : exec i s = .next t) : BlockInv t := by
  have hinputs : OnlyOutside t.inputs := by rw [exec_inputs h]; exact hs.inputs_allowed
  have hcells : Memory.wf t.unlisted t.mem := exec_keeps_wf hs.cells_canonical h
  cases exec_outputEffect hi h with
  | nothing hsame => exact blockInv_of_sameOutputs hs hinputs hcells hsame
  | reset => exact blockInv_of_dark_idle hinputs hcells rfl rfl rfl
  | stop => exact blockInv_of_dark_idle hinputs hcells hs.freeze_holds rfl rfl
  | send hphase _ g ch => exact blockInv_afterSend hs hphase _ g ch
  | burst hbusy => exact blockInv_afterBurst hs hbusy

/-- The invariants say nothing of what is to come but that it is of the surroundings. -/
theorem blockInv_withQueues (hs : BlockInv s) {ins : List Request} (hins : OnlyOutside ins) (ps : List CellWrite) :
    BlockInv (withQueues s ins ps) :=
  blockInv_of_sameOutputs hs hins hs.cells_canonical ⟨rfl, rfl, rfl, rfl, rfl, rfl, rfl, .inl rfl⟩

theorem step_keeps_blockInv (hs : BlockInv s) (h : step s = .next t) : BlockInv t := by
  obtain ⟨ins, ps, hins, rfl | ⟨i, hi, hexec⟩⟩ := stepEffect_of_step h
  · exact blockInv_withQueues hs (hins hs.inputs_allowed) ps
  · exact exec_keeps_blockInv (hi hs.inputs_allowed) (blockInv_withQueues hs (hins hs.inputs_allowed) ps) hexec

end

/-- Settles O52. -/
theorem everyStepKeepsTheBlockInvariant : Obligations.EveryStepKeepsTheBlockInvariant := by
  unfold Obligations.EveryStepKeepsTheBlockInvariant
  exact fun s t hs h => step_keeps_blockInv hs h

/-- Settles O53: after reset the tube is dark and the transport idle. -/
theorem blockInvariantHoldsAtReset : Obligations.BlockInvariantHoldsAtReset := by
  unfold Obligations.BlockInvariantHoldsAtReset
  exact blockInv_of_dark_idle rfl Laws.wf_reset rfl rfl rfl

/-! ### Runs of steps -/

theorem runSteps_succ_eq_next {n : Nat} {s u : State} (h : runSteps (n + 1) s = .next u) :
    ∃ t, step s = .next t ∧ runSteps n t = .next u := by
  rw [runSteps] at h
  split at h
  · next t hstep => exact ⟨t, hstep, h⟩
  · cases h
  · cases h

theorem runSteps_keeps_blockInv (n : Nat) {s t : State} (hs : BlockInv s) (h : runSteps n s = .next t) : BlockInv t := by
  induction n generalizing s with
  | zero => cases h; exact hs
  | succ n ih =>
    obtain ⟨s', hstep, hrun⟩ := runSteps_succ_eq_next h
    exact ih (step_keeps_blockInv hs hstep) hrun

theorem oneBit_of_wellFormedFrame {cfg : Config} {f : Word24} (hf : wellFormedFrame cfg f = true) :
    oneBit (f &&& gridMask cfg) = true := by
  rw [wellFormedFrame, Bool.and_eq_true] at hf
  exact hf.1

/-- Settles O54: a dark tube shows nothing, and a lit one LATCH, of which the invariants speak. -/
theorem nothingGarbledIsEverVisible : Obligations.NothingGarbledIsEverVisible := by
  unfold Obligations.NothingGarbledIsEverVisible
  intro n s t hs h
  have ht : BlockInv t := runSteps_keeps_blockInv n hs h
  cases hblank : t.blank with
  | true => exact .inl (visible_of_blank hblank)
  | false =>
    have hframe := ht.lit_frame hblank
    rw [visible_of_not_blank hblank]
    exact .inr ⟨hframe, oneBit_of_wellFormedFrame hframe, ht.lit_latched hblank⟩

end Sys2Proof.Proofs
end

section
/-! PROOFS. Ticks in a row: what one tick sends is a function of the configuration, the cursor and one cell, so ticks visit every
position, repeat themselves after nine, and do not tell two buffers apart that agree at the cursor
(`spec/43_refresh_scheduler.md` R108, R114; `spec/42_digit_selector.md` R105, R106; `spec/70_reset_and_hazards.md` R168). -/

namespace Sys2Proof.Proofs

open Sys2Proof.Machine Sys2Proof.Safety Sys2Proof.Certificates

/-! ### What a served tick does, by the frame it sends -/

/-- The frame of a position, if SELECT is valid there (R108 step 2). -/
def selectedFrame (s : State) (c : Fin 9) : Option Word24 := (selectAt s c).map fun p => charFrame s.config p.1 p.2

/-- The frame a served tick sends, if it sends one: a busy transport takes none (R113). -/
def tickFrame (s : State) : Option Word24 := if isIdle s then selectedFrame s s.cursor else none

/-- The state after a served tick that sends this frame, or none. -/
def afterTick (s : State) : Option Word24 → State
  | some f => afterSend s (nextCursor s.cursor) f
  | none   => { s with cursor := nextCursor s.cursor }

theorem tickFrame_of_idle {s : State} (hidle : s.tx = .idle) : tickFrame s = selectedFrame s s.cursor := by
  simp [tickFrame, isIdle, hidle]

theorem tickFrame_of_busy {s : State} (hbusy : s.tx = .shifting) : tickFrame s = none := by
  simp [tickFrame, isIdle, hbusy]

theorem serveTick_eq_afterTick (s : State) : serveTick s = afterTick s (tickFrame s) := by
  cases htx : s.tx with
  | shifting => rw [serveTick_of_busy htx, tickFrame_of_busy htx, afterTick]
  | idle =>
    rw [tickFrame_of_idle htx, selectedFrame]
    cases hsel : selectAt s s.cursor with
    | none => exact serveTick_of_none_selected hsel
    | some p => exact serveTick_of_selected hsel htx

theorem exec_tick_eq_afterTick {s : State} (hphase : s.phase = .running) :
    exec .tick s = .next (afterTick s (tickFrame s)) := by
  rw [exec_tick_of_running hphase, serveTick_eq_afterTick]

section
variable (s : State) (o : Option Word24)

@[simp] theorem afterTick_phase : (afterTick s o).phase = s.phase := by cases o <;> rfl
@[simp] theorem afterTick_mem : (afterTick s o).mem = s.mem := by cases o <;> rfl
@[simp] theorem afterTick_cursor : (afterTick s o).cursor = nextCursor s.cursor := by cases o <;> rfl

theorem afterTick_with_mem (m : Memory) : afterTick { s with mem := m } o = { afterTick s o with mem := m } := by
  cases o <;> rfl

end

/-! ### What SELECT reads (R32, R105, R106) -/

section
variable {s t : State}

/-- SELECT reads the configuration and the one cell at the cursor. -/
theorem selectAt_congr (hconfig : t.config = s.config) {c : Fin 9} (hcell : t.readCell c.val = s.readCell c.val) :
    selectAt t c = selectAt s c := by
  by_cases hc : c.val = 0
  · rw [hc] at hcell
    rw [Laws.selectAt_zero t c hc, Laws.selectAt_zero s c hc, selectAtZero, selectAtZero, hconfig, hcell]
  · rw [Laws.selectAt_digit t c hc, Laws.selectAt_digit s c hc, hcell]

theorem readCell_congr (hconfig : t.config = s.config) (hmem : t.mem = s.mem) (a : Nat) : t.readCell a = s.readCell a := by
  rw [State.readCell, State.readCell, State.unlisted, State.unlisted, hconfig, hmem]

theorem selectedFrame_congr (hconfig : t.config = s.config) (hmem : t.mem = s.mem) (c : Fin 9) :
    selectedFrame t c = selectedFrame s c := by
  rw [selectedFrame, selectedFrame, selectAt_congr hconfig (readCell_congr hconfig hmem _), hconfig]

/-- At cursor 0, without a sign character, SELECT reads no cell. -/
theorem selectAt_zero_congr (hconfig : t.config = s.config) (hs : ¬ holdsSign s) (ht : ¬ holdsSign t) :
    selectAt t 0 = selectAt s 0 := by
  cases hskip : s.config.skipPolicy with
  | blankSign =>
    rw [selectAt_zero_blankSign hs hskip, selectAt_zero_blankSign ht (by rw [hconfig, hskip]), hconfig]
  | noFrame => rw [selectAt_zero_noFrame hs hskip, selectAt_zero_noFrame ht (by rw [hconfig, hskip])]

/-- Where SELECT answers the same of two buffers, a tick does the same over them. -/
theorem exec_tick_with_mem {m : Memory} (hsel : selectAt { s with mem := m } s.cursor = selectAt s s.cursor)
    (h : exec .tick s = .next t) : exec .tick { s with mem := m } = .next { t with mem := m } := by
  by_cases hphase : s.phase = .running
  · have hsame : tickFrame { s with mem := m } = tickFrame s := by
      simp only [tickFrame, selectedFrame, hsel]
      rfl
    have hmoved : exec .tick { s with mem := m } = .next (afterTick { s with mem := m } (tickFrame { s with mem := m })) :=
      exec_tick_eq_afterTick hphase
    cases (exec_tick_eq_afterTick hphase).symm.trans h
    rw [hmoved, hsame, afterTick_with_mem]
  · cases (exec_tick_of_not_running hphase).symm.trans h
    exact exec_tick_of_not_running hphase

end

/-- Settles O29. -/
theorem tickReadsOnlyTheCursorCell : Obligations.TickReadsOnlyTheCursorCell := by
  unfold Obligations.TickReadsOnlyTheCursorCell
  intro s t m hcell h
  have hsel : selectAt { s with mem := m } s.cursor = selectAt s s.cursor :=
    selectAt_congr (s := s) (t := { s with mem := m }) rfl hcell
  exact exec_tick_with_mem hsel h

theorem exec_tick_mem {s t : State} (h : exec .tick s = .next t) : t.mem = s.mem := by
  by_contra hmem
  simpa using exec_mem h hmem

/-- Settles O30: at cursor 0 SELECT reads no cell, and elsewhere not cell 0. -/
theorem nonSignCellZeroIsNeverShown : Obligations.NonSignCellZeroIsNeverShown := by
  unfold Obligations.NonSignCellZeroIsNeverShown
  intro s t v hs hwritten h
  have hsel : selectAt (s.writeCell 0 v) s.cursor = selectAt s s.cursor := by
    by_cases hcursor : s.cursor = 0
    · rw [hcursor]
      exact selectAt_zero_congr rfl hs hwritten
    · have hcell : s.cursor.val ≠ 0 := fun h => hcursor (Fin.ext h)
      exact selectAt_congr (s := s) (t := s.writeCell 0 v) rfl ((Laws.readCell_writeCell s).trans (if_neg hcell))
  have hsame : t.writeCell 0 v = { t with mem := (s.writeCell 0 v).mem } := by
    rw [State.writeCell, State.unlisted, exec_config h, exec_tick_mem h]
    rfl
  rw [hsame]
  exact exec_tick_with_mem hsel h

/-! ### Ticks in a row (R114, R168) -/

theorem runOps_cons {i : Instr} {s t : State} (h : exec i s = .next t) (ops : List Instr) :
    runOps (i :: ops) s = runOps ops t := by
  rw [runOps, h]

theorem runOps_append {xs : List Instr} {s t : State} (h : runOps xs s = .next t) (ys : List Instr) :
    runOps (xs ++ ys) s = runOps ys t := by
  induction xs generalizing s with
  | nil => cases h; rfl
  | cons i is ih =>
    obtain ⟨u, hexec⟩ := exec_answers i s
    rw [runOps_cons hexec] at h
    rw [List.cons_append, runOps_cons hexec, ih h]

theorem nextCursor_val (c : Fin 9) : (nextCursor c).val = (c.val + 1) % 9 := rfl

theorem runOps_ticks (k : Nat) {s : State} (hphase : s.phase = .running) :
    ∃ t, runOps (List.replicate k .tick) s = .next t ∧ t.cursor.val = (s.cursor.val + k) % 9 ∧ t.mem = s.mem := by
  induction k generalizing s with
  | zero => exact ⟨s, rfl, (Nat.mod_eq_of_lt s.cursor.isLt).symm, rfl⟩
  | succ k ih =>
    obtain ⟨t, hrun, hcursor, hmem⟩ := ih (s := afterTick s (tickFrame s)) (by rw [afterTick_phase, hphase])
    rw [afterTick_cursor, nextCursor_val] at hcursor
    refine ⟨t, ?_, by omega, by rw [hmem, afterTick_mem]⟩
    rw [List.replicate_succ, runOps_cons (exec_tick_eq_afterTick hphase), hrun]

/-- Settles O28: as many ticks as the position is ahead of the cursor. -/
theorem everyPositionIsReached : Obligations.EveryPositionIsReached := by
  unfold Obligations.EveryPositionIsReached
  intro s c hphase
  obtain ⟨t, hrun, hcursor, hmem⟩ := runOps_ticks ((c.val + 9 - s.cursor.val) % 9) hphase
  exact ⟨_, t, by omega, hrun, Fin.ext (by omega), hmem⟩

/-! ### Undisturbed cycles (R114) -/

/-- After n ticks, each with its burst ended, the block is ready for a further tick, the buffer stands as it did, and these
frames have been transmitted. -/
structure ServedTicks (s : State) (n : Nat) (fs : List Word24) (t : State) : Prop where
  phase  : t.phase = .running
  tx     : t.tx = .idle
  config : t.config = s.config
  mem    : t.mem = s.mem
  cursor : t.cursor.val = (s.cursor.val + n) % 9
  trace  : t.trace = s.trace ++ transmissions fs

/-- The frames of n positions from c on, where SELECT is valid. -/
def framesFrom (s : State) : Nat → Fin 9 → List Word24
  | 0, _     => []
  | n + 1, c => (selectedFrame s c).toList ++ framesFrom s n (nextCursor c)

theorem framesFrom_congr {s t : State} (hconfig : t.config = s.config) (hmem : t.mem = s.mem) (n : Nat) (c : Fin 9) :
    framesFrom t n c = framesFrom s n c := by
  induction n generalizing c with
  | zero => rfl
  | succ n ih => rw [framesFrom, framesFrom, selectedFrame_congr hconfig hmem, ih]

/-- A tick on an idle transport and the end of its burst transmit the frame selected, if there is one. -/
theorem servedTicks_one {s : State} (hphase : s.phase = .running) (hidle : s.tx = .idle) :
    ∃ t, runOps [.tick, .txdone] s = .next t ∧ ServedTicks s 1 (selectedFrame s s.cursor).toList t := by
  have htick := exec_tick_eq_afterTick hphase
  rw [tickFrame_of_idle hidle] at htick
  rw [runOps_cons htick]
  cases selectedFrame s s.cursor with
  | none =>
    exact ⟨_, runOps_cons (exec_txdone_of_idle (s := afterTick s none) hidle) [], hphase, hidle, rfl, rfl, rfl,
      (List.append_nil _).symm⟩
  | some f =>
    refine ⟨_, runOps_cons (exec_txdone_of_shifting rfl) [], hphase, rfl, rfl, rfl, rfl, ?_⟩
    exact List.append_assoc s.trace [.blank, .send f] [.latch, .unblank]

theorem servedTicks_zero {s : State} (hphase : s.phase = .running) (hidle : s.tx = .idle) : ServedTicks s 0 [] s :=
  ⟨hphase, hidle, rfl, rfl, (Nat.mod_eq_of_lt s.cursor.isLt).symm, (List.append_nil _).symm⟩

theorem ServedTicks.trans {s t u : State} {m n : Nat} {fs gs : List Word24} (h : ServedTicks s m fs t)
    (h' : ServedTicks t n gs u) : ServedTicks s (m + n) (fs ++ gs) u where
  phase := h'.phase
  tx := h'.tx
  config := h'.config.trans h.config
  mem := h'.mem.trans h.mem
  cursor := by
    have hm := h.cursor
    have hn := h'.cursor
    omega
  trace := by rw [h'.trace, h.trace, transmissions, transmissions, transmissions, List.flatMap_append, List.append_assoc]

/-- Nine ticks visit each position once and return (R114). -/
theorem ServedTicks.cursor_eq_of_nine {s t : State} {fs : List Word24} (h : ServedTicks s 9 fs t) : t.cursor = s.cursor := by
  have hval := h.cursor
  exact Fin.ext (by omega)

theorem runOps_servedTicks (n : Nat) {s : State} (hphase : s.phase = .running) (hidle : s.tx = .idle) :
    ∃ t, runOps (List.replicate n [Instr.tick, .txdone]).flatten s = .next t ∧ ServedTicks s n (framesFrom s n s.cursor) t := by
  induction n generalizing s with
  | zero => exact ⟨s, rfl, servedTicks_zero hphase hidle⟩
  | succ n ih =>
    obtain ⟨t, hone, ht⟩ := servedTicks_one hphase hidle
    obtain ⟨u, hrun, hu⟩ := ih ht.phase ht.tx
    have hcursor : t.cursor = nextCursor s.cursor := Fin.ext ht.cursor
    rw [framesFrom_congr ht.config ht.mem, hcursor] at hu
    have hboth := ht.trans hu
    rw [Nat.add_comm 1 n] at hboth
    exact ⟨u, by rw [List.replicate_succ, List.flatten_cons, runOps_append hone, hrun], hboth⟩

/-- Settles O27: after nine served ticks the cursor and the buffer are as before, so the frames of the next nine are the same. -/
theorem nineTicksCloseTheCycle : Obligations.NineTicksCloseTheCycle := by
  unfold Obligations.NineTicksCloseTheCycle
  intro s hphase
  refine ⟨fun k => runOps_ticks k hphase, fun hidle => ?_⟩
  obtain ⟨t, hfirst, ht⟩ := runOps_servedTicks 9 hphase hidle
  obtain ⟨u, hsecond, hu⟩ := runOps_servedTicks 9 ht.phase ht.tx
  have htrace := hu.trace
  rw [framesFrom_congr ht.config ht.mem, ht.cursor_eq_of_nine] at htrace
  exact ⟨t, u, _, hfirst, hsecond, ht.cursor_eq_of_nine, hu.cursor_eq_of_nine.trans ht.cursor_eq_of_nine, ht.trace, htrace⟩

end Sys2Proof.Proofs
end

section
/-! PROOFS. The producer and the samples: a run of steps makes the pending writes one a step, a WRCH waits for them, and a sample
performs its events in their order (`spec/20_memory.md` R41, R42; `spec/43_refresh_scheduler.md` R116, R117;
`spec/60_exceptions.md` R145). -/

namespace Sys2Proof.Proofs

open Sys2Proof.Machine Sys2Proof.Safety Sys2Proof.Certificates

/-! ### The producer's list (R63, R117) -/

/-- The writes of the producer as operations (R116). -/
def writeOps (ws : List CellWrite) : List Instr := ws.map fun w => .wrch w.index w.char

theorem writeOps_append (ws ws' : List CellWrite) : writeOps (ws ++ ws') = writeOps ws ++ writeOps ws' := List.map_append

/-- The character SETDISP puts into a cell: that of the text, or ' ' beyond its end (R63). -/
def textAt (cfg : Config) (text : List Byte) (a : Nat) : Byte := (text[a]?).getD (charCode cfg .space)

theorem length_setdispWrites (cfg : Config) (text : List Byte) : (setdispWrites cfg text).length = 10 := by
  simp [setdispWrites, bufLen]

theorem getElem?_setdispWrites (cfg : Config) (text : List Byte) {n : Nat} (hn : n < 10) :
    (setdispWrites cfg text)[n]? = some ⟨BitVec.ofNat 4 n, textAt cfg text n⟩ := by
  simp [setdispWrites, bufLen, hn, textAt]

/-- Settles O32. -/
theorem setdispExpandsToTenWrites : Obligations.SetdispExpandsToTenWrites := by
  unfold Obligations.SetdispExpandsToTenWrites
  exact fun s text => ⟨setdispWrites s.config text, exec_setdisp text s, length_setdispWrites s.config text,
    fun n hn => getElem?_setdispWrites s.config text hn⟩

/-! ### The writes, made one after another -/

/-- Nothing but the cells has changed. -/
def OnlyCells (s t : State) : Prop := t = { s with mem := t.mem }

theorem OnlyCells.trans {s t u : State} (h : OnlyCells s t) (h' : OnlyCells t u) : OnlyCells s u :=
  Eq.trans h' (congrArg (fun x : State => { x with mem := u.mem }) h)

/-- The writes reach no cell beyond 0..9 (R37). -/
theorem runOps_writeOps (ws : List CellWrite) (s : State) :
    ∃ t, runOps (writeOps ws) s = .next t ∧ OnlyCells s t ∧ ∀ a, bufLen ≤ a → t.readCell a = s.readCell a := by
  induction ws generalizing s with
  | nil => exact ⟨s, rfl, rfl, fun _ _ => rfl⟩
  | cons w ws ih =>
    obtain ⟨t, hexec, hframe, hcells⟩ := exec_wrch_cell w.index w.char s
    obtain ⟨u, hrun, hframe', hbeyond⟩ := ih t
    refine ⟨u, (runOps_cons hexec _).trans hrun, OnlyCells.trans hframe hframe', fun a ha => ?_⟩
    have hother : ¬ (a = w.index.toNat ∧ w.index.toNat < bufLen) := by omega
    rw [hbeyond a ha, hcells, if_neg hother]

/-- The first k writes of a SETDISP put the text into the first k cells (R117). -/
theorem runOps_take_setdispWrites (cfg : Config) (text : List Byte) {k : Nat} (hk : k ≤ 10) (s : State) :
    ∃ t, runOps (writeOps ((setdispWrites cfg text).take k)) s = .next t ∧ OnlyCells s t ∧
      ∀ a, t.readCell a = if a < k then textAt cfg text a else s.readCell a := by
  induction k with
  | zero => exact ⟨s, rfl, rfl, fun a => (if_neg (Nat.not_lt_zero a)).symm⟩
  | succ k ih =>
    have hk' : k < 10 := hk
    obtain ⟨t, hrun, hframe, hcells⟩ := ih (Nat.le_of_succ_le hk)
    obtain ⟨u, hexec, hframe', hcell⟩ := exec_wrch_cell (BitVec.ofNat 4 k) (textAt cfg text k) t
    refine ⟨u, ?_, hframe.trans hframe', fun a => ?_⟩
    · rw [List.take_add_one, getElem?_setdispWrites cfg text hk', Option.toList_some, writeOps_append, runOps_append hrun]
      exact runOps_cons hexec []
    · have hindex : (BitVec.ofNat 4 k).toNat = k := by simp; omega
      rw [hcell, hindex, hcells]
      by_cases ha : a = k
      · subst ha
        rw [if_pos ⟨rfl, hk'⟩, if_pos (Nat.lt_succ_self a)]
      · have hlt : a < k + 1 ↔ a < k := by omega
        simp [ha, hlt]

/-! ### Operations do not look at what is to come -/

/-- The six input events (R58). -/
def isEvent : Instr → Bool
  | .reset | .stop | .start | .txdone | .tick | .wrch _ _ => true
  | _ => false

theorem afterTick_withQueues (s : State) (o : Option Word24) (ins : List Request) (ps : List CellWrite) :
    afterTick (withQueues s ins ps) o = withQueues (afterTick s o) ins ps := by
  cases o <;> rfl

theorem tickFrame_withQueues (s : State) (ins : List Request) (ps : List CellWrite) :
    tickFrame (withQueues s ins ps) = tickFrame s := rfl

/-- What an input event does to the block is the same whatever operations and writes are to come, and it leaves these alone. -/
theorem exec_event_withQueues {i : Instr} (hi : isEvent i = true) (s : State) :
    ∃ t, ∀ ins ps, exec i (withQueues s ins ps) = .next (withQueues t ins ps) := by
  cases i with
  | reset => exact ⟨afterReset s, fun ins ps => exec_reset (withQueues s ins ps)⟩
  | stop => exact ⟨afterStop s, fun ins ps => exec_stop_eq_afterStop (withQueues s ins ps)⟩
  | start =>
    by_cases hphase : s.phase = .init
    · exact ⟨{ s with phase := .running }, fun ins ps => exec_start_of_init (s := withQueues s ins ps) hphase⟩
    · exact ⟨s, fun ins ps => exec_start_of_not_init (s := withQueues s ins ps) hphase⟩
  | txdone =>
    cases htx : s.tx with
    | idle => exact ⟨s, fun ins ps => exec_txdone_of_idle (s := withQueues s ins ps) htx⟩
    | shifting => exact ⟨afterBurst s, fun ins ps => exec_txdone_of_shifting (s := withQueues s ins ps) htx⟩
  | tick =>
    by_cases hphase : s.phase = .running
    · refine ⟨afterTick s (tickFrame s), fun ins ps => ?_⟩
      rw [← afterTick_withQueues, ← tickFrame_withQueues s ins ps]
      exact exec_tick_eq_afterTick hphase
    · exact ⟨s, fun ins ps => exec_tick_of_not_running (s := withQueues s ins ps) hphase⟩
  | wrch a v =>
    by_cases ha : a.toNat < bufLen
    · exact ⟨s.writeCell a.toNat v, fun ins ps => exec_wrch_of_lt ha v (withQueues s ins ps)⟩
    · exact ⟨s, fun ins ps => exec_wrch_of_ge (not_lt.mp ha) v (withQueues s ins ps)⟩
  | _ => cases hi

/-! ### Steps that make the producer's writes (R41, R42) -/

theorem runSteps_succ {s t : State} (h : step s = .next t) (n : Nat) : runSteps (n + 1) s = runSteps n t := by
  rw [runSteps, h]

theorem runSteps_add {s t : State} {m : Nat} (h : runSteps m s = .next t) (n : Nat) :
    runSteps (m + n) s = runSteps n t := by
  induction m generalizing s with
  | zero => cases h; rw [Nat.zero_add]
  | succ m ih =>
    obtain ⟨u, hstep, hrun⟩ := runSteps_succ_eq_next h
    rw [Nat.succ_add, runSteps_succ hstep, ih hrun]

/-- The next step is a turn of the producer, if it has a write to make: nothing else is to come, or a WRCH that has to wait. -/
def ProducerFirst (s : State) : Prop :=
  s.inputs = [] ∨ ∃ w rest a v, s.inputs = .word w :: rest ∧ decode s.config w = .instr (.wrch a v)

theorem producerTurn_of_cons {s : State} {cw : CellWrite} {ws : List CellWrite} (hproducer : s.producer = cw :: ws) :
    producerTurn s = exec (.wrch cw.index cw.char) { s with producer := ws } := by
  rw [producerTurn, hproducer]
  rfl

theorem waitsForProducer_wrch_of_cons {s : State} {cw : CellWrite} {ws : List CellWrite} (hproducer : s.producer = cw :: ws)
    (a : BitVec 4) (v : Byte) : waitsForProducer (.wrch a v) s = true :=
  (Laws.waitsForProducer_iff _ s).mpr ⟨⟨a, v, rfl⟩, by simp [hproducer]⟩

theorem step_of_producerFirst {s : State} (hs : ProducerFirst s) {cw : CellWrite} {ws : List CellWrite}
    (hproducer : s.producer = cw :: ws) : step s = exec (.wrch cw.index cw.char) { s with producer := ws } := by
  rw [← producerTurn_of_cons hproducer]
  obtain hnone | ⟨w, rest, a, v, hinputs, hdecode⟩ := hs
  · simp only [step, hnone]
  · rw [step_of_decoded hinputs hdecode, if_pos (waitsForProducer_wrch_of_cons hproducer a v)]

/-- As many steps as the producer is to make writes first make exactly these, whatever else is to come. -/
theorem runSteps_of_producerFirst (ws later : List CellWrite) {s : State} (hs : ProducerFirst s)
    (hproducer : s.producer = ws ++ later) :
    runSteps ws.length s = runOps (writeOps ws) (withQueues s s.inputs later) := by
  induction ws generalizing s with
  | nil =>
    have hself : withQueues s s.inputs later = s := by
      rw [← show s.producer = later from hproducer]
      rfl
    rw [hself]
    rfl
  | cons cw ws ih =>
    obtain ⟨t, ht⟩ := exec_event_withQueues (i := .wrch cw.index cw.char) rfl s
    have hstep : step s = .next (withQueues t s.inputs (ws ++ later)) :=
      (step_of_producerFirst hs hproducer).trans (ht s.inputs (ws ++ later))
    have hconfig : t.config = s.config := exec_config (t := withQueues t s.inputs s.producer) (ht s.inputs s.producer)
    have ht' : ProducerFirst (withQueues t s.inputs (ws ++ later)) := by
      rw [ProducerFirst, show (withQueues t s.inputs (ws ++ later)).config = s.config from hconfig]
      exact hs
    calc runSteps (cw :: ws).length s
        = runSteps ws.length (withQueues t s.inputs (ws ++ later)) := runSteps_succ hstep _
      _ = runOps (writeOps ws) (withQueues t s.inputs later) := ih ht' rfl
      _ = runOps (writeOps (cw :: ws)) (withQueues s s.inputs later) := (runOps_cons (ht s.inputs later) _).symm

/-- Settles O33: the k writes made are the first k of the SETDISP. -/
theorem setdispLandsCellByCell : Obligations.SetdispLandsCellByCell := by
  unfold Obligations.SetdispLandsCellByCell
  intro s u text k hproducer hinputs hk hexec
  cases (exec_setdisp text s).symm.trans hexec
  obtain ⟨t, hrun, hframe, hcells⟩ := runOps_take_setdispWrites s.config text hk
    (withQueues s s.inputs ((setdispWrites s.config text).drop k))
  have hpending : s.producer ++ setdispWrites s.config text =
      (setdispWrites s.config text).take k ++ (setdispWrites s.config text).drop k := by
    rw [hproducer, List.nil_append, List.take_append_drop]
  have hlength : ((setdispWrites s.config text).take k).length = k := by
    rw [List.length_take, length_setdispWrites, Nat.min_eq_left hk]
  have hsteps := runSteps_of_producerFirst (s := { s with producer := s.producer ++ setdispWrites s.config text })
    ((setdispWrites s.config text).take k) ((setdispWrites s.config text).drop k) (.inl hinputs) hpending
  rw [hlength] at hsteps
  have hleft : t.producer = (setdispWrites s.config text).drop k := congrArg State.producer hframe
  refine ⟨t, hsteps.trans hrun, ?_, by rw [hleft, List.length_drop, length_setdispWrites], hcells⟩
  rw [hleft]
  exact hframe

/-! ### A WRCH after the pending writes (R41) -/

theorem runOps_singleton (i : Instr) (s : State) : runOps [i] s = exec i s := by
  obtain ⟨t, h⟩ := exec_answers i s
  rw [runOps_cons h, h, runOps]

theorem runSteps_one {s t : State} (h : step s = .next t) : runSteps 1 s = .next t := by
  rw [runSteps_succ h, runSteps]

theorem step_of_not_waiting {s : State} {w : OpWord} {rest : List Request} {i : Instr} (hinputs : s.inputs = .word w :: rest)
    (hdecode : decode s.config w = .instr i) (hwait : waitsForProducer i s = false) :
    step s = exec i { s with inputs := restOfSample w ++ rest } := by
  rw [step_of_decoded hinputs hdecode, hwait]
  rfl

theorem runOps_events_withQueues {ops : List Instr} (hops : ∀ i ∈ ops, isEvent i = true) (s : State) :
    ∃ t, t.config = s.config ∧ ∀ ins ps, runOps ops (withQueues s ins ps) = .next (withQueues t ins ps) := by
  induction ops generalizing s with
  | nil => exact ⟨s, rfl, fun _ _ => rfl⟩
  | cons i is ih =>
    obtain ⟨hi, his⟩ := List.forall_mem_cons.mp hops
    obtain ⟨t, ht⟩ := exec_event_withQueues hi s
    obtain ⟨u, hconfig, hu⟩ := ih his t
    have hconfig' : t.config = s.config := exec_config (t := withQueues t s.inputs s.producer) (ht s.inputs s.producer)
    exact ⟨u, hconfig.trans hconfig', fun ins ps => (runOps_cons (ht ins ps) is).trans (hu ins ps)⟩

theorem isEvent_of_mem_writeOps {ws : List CellWrite} : ∀ i ∈ writeOps ws, isEvent i = true := by
  intro i hi
  obtain ⟨w, -, rfl⟩ := List.mem_map.mp hi
  rfl

/-- A waiting WRCH, alone in its word, is performed right after the writes it waits for. -/
theorem runSteps_waiting_wrch {s : State} {w : OpWord} {rest : List Request} {a : BitVec 4} {v : Byte}
    (hinputs : s.inputs = .word w :: rest) (hdecode : decode s.config w = .instr (.wrch a v)) (halone : restOfSample w = []) :
    runSteps (s.producer.length + 1) s = runOps (writeOps s.producer ++ [.wrch a v]) (withQueues s rest []) := by
  obtain ⟨t, hconfig, ht⟩ := runOps_events_withQueues (ops := writeOps s.producer) isEvent_of_mem_writeOps s
  have hpending : runSteps s.producer.length s = .next (withQueues t s.inputs []) :=
    (runSteps_of_producerFirst s.producer [] (.inr ⟨w, rest, a, v, hinputs, hdecode⟩) (List.append_nil _).symm).trans (ht _ _)
  have hstep : step (withQueues t s.inputs []) = exec (.wrch a v) (withQueues t rest []) := by
    rw [step_of_not_waiting (s := withQueues t s.inputs []) hinputs (hconfig ▸ hdecode) rfl, halone]
    rfl
  obtain ⟨u, hu⟩ := exec_answers (.wrch a v) (withQueues t rest [])
  rw [runSteps_add hpending, runSteps_one (hstep.trans hu), runOps_append (ht rest []), runOps_singleton, hu]

/-- Settles O4: the six cases of a step. -/
theorem stepRunsTheDecodedOperation : Obligations.StepRunsTheDecodedOperation := by
  unfold Obligations.StepRunsTheDecodedOperation
  refine ⟨fun s w rest i hinputs hdecode hready => ?decoded, fun s w rest a v cw ws hinputs hdecode hproducer => ?waiting,
    fun s w rest hinputs hdecode => ?noEvent, fun s rest cw ws hinputs hproducer => ?turn,
    fun s cw ws hinputs hproducer => step_of_producerFirst (.inl hinputs) hproducer, fun s hinputs hproducer => ?idle⟩
  case decoded =>
    refine step_of_not_waiting hinputs hdecode (Bool.eq_false_iff.mpr fun hwait => ?_)
    obtain ⟨⟨a, v, rfl⟩, hpending⟩ := (Laws.waitsForProducer_iff i s).mp hwait
    obtain hnone | hother := hready
    · exact hpending hnone
    · exact hother a v rfl
  case waiting => exact step_of_producerFirst (.inr ⟨w, rest, a, v, hinputs, hdecode⟩) hproducer
  case noEvent => simp only [step, hinputs, hdecode]
  case turn =>
    have hstep : step s = producerTurn { s with inputs := rest } := by simp only [step, hinputs]
    exact hstep.trans (producerTurn_of_cons (s := { s with inputs := rest }) hproducer)
  case idle => simp only [step, producerTurn, hinputs, hproducer]

/-! ### A WRCH after a SETDISP (R41) -/

theorem restOfSample_wrch (i : BitVec 4) (v : Byte) : restOfSample ⟨.event6, [0x01#8, i.setWidth 8, v]⟩ = [] := rfl

/-- What the pending writes, the ten of a SETDISP and a WRCH after them leave in the cells. -/
theorem runOps_writeOps_setdisp_wrch (ps : List CellWrite) (cfg : Config) (text : List Byte) (i : BitVec 4) (v : Byte)
    (s : State) :
    ∃ t, runOps (writeOps (ps ++ setdispWrites cfg text) ++ [.wrch i v]) s = .next t ∧ OnlyCells s t ∧
      ∀ a, t.readCell a = if a = i.toNat ∧ a ≤ 9 then v else if a ≤ 9 then textAt cfg text a else s.readCell a := by
  obtain ⟨t, hpending, hframe, hbeyond⟩ := runOps_writeOps ps s
  obtain ⟨u, htext, hframe', hcells⟩ := runOps_take_setdispWrites cfg text (Nat.le_refl 10) t
  rw [← length_setdispWrites cfg text, List.take_length] at htext
  obtain ⟨x, hwrch, hframe'', hcell⟩ := exec_wrch_cell i v u
  refine ⟨x, ?_, (hframe.trans hframe').trans hframe'', fun a => ?_⟩
  · rw [writeOps_append, List.append_assoc, runOps_append hpending, runOps_append htext, runOps_singleton, hwrch]
  · rw [hcell, hcells]
    have hiff : (a = i.toNat ∧ i.toNat < bufLen) ↔ (a = i.toNat ∧ a ≤ 9) := by
      rw [bufLen]
      omega
    have hlt : a < 10 ↔ a ≤ 9 := Nat.lt_succ_iff
    simp only [hiff, hlt]
    by_cases ha : a ≤ 9
    · simp only [ha, if_true]
    · rw [if_neg ha, if_neg ha, hbeyond a (not_le.mp ha)]

theorem step_setdisp {s : State} {text : List Byte} {rest : List Request}
    (hinputs : s.inputs = .word ⟨.named .setdisp, text⟩ :: rest) :
    step s = .next (withQueues s rest (s.producer ++ setdispWrites s.config text)) :=
  step_of_not_waiting (i := .setdisp text) hinputs rfl rfl

/-- Settles O55: the SETDISP takes one step, then the WRCH waits for what was pending and for the ten writes. -/
theorem producerWritesKeepTheirOrder : Obligations.ProducerWritesKeepTheirOrder := by
  unfold Obligations.ProducerWritesKeepTheirOrder
  intro s rest text i v hinputs
  obtain ⟨t, hrun, hframe, hcells⟩ := runOps_writeOps_setdisp_wrch s.producer s.config text i v (withQueues s rest [])
  have hwaiting := runSteps_waiting_wrch
    (s := withQueues s (.word ⟨.event6, [0x01#8, i.setWidth 8, v]⟩ :: rest) (s.producer ++ setdispWrites s.config text))
    rfl (decode_wrch i v) (restOfSample_wrch i v)
  have hlength : (s.producer ++ setdispWrites s.config text).length = s.producer.length + 10 := by
    rw [List.length_append, length_setdispWrites]
  refine ⟨t, ?_, hframe, hcells⟩
  calc runSteps (s.producer.length + 12) s
      = runSteps ((s.producer ++ setdispWrites s.config text).length + 1) _ := by
        rw [runSteps_succ (step_setdisp hinputs), hlength]
    _ = _ := hwaiting
    _ = .next t := hrun

/-! ### A sample of several events (R58, R145) -/

/-- The word of a sample (D10; log 10). -/
def sampleWord (ev : BitVec 6) (idx : BitVec 4) (ch : Byte) : OpWord := ⟨.event6, [ev.setWidth 8, idx.setWidth 8, ch]⟩

/-- The events of a sample that come after its first operation: none after RESET and STOP, which are performed alone (R145). -/
def laterEvents (ev : BitVec 6) : BitVec 6 :=
  if ev.getLsbD 5 || ev.getLsbD 4 then 0#6 else (clearHighest (ev.setWidth 8)).setWidth 6

/-- What stands in `inputs` for the events of a sample that are still to be performed. -/
def sampleRequests (ev : BitVec 6) (idx : BitVec 4) (ch : Byte) : List Request :=
  if ev = 0#6 then [] else [.word (sampleWord ev idx ch)]

theorem clearHighest_sample : ∀ ev : BitVec 6,
    ((clearHighest (ev.setWidth 8)).setWidth 6).setWidth 8 = clearHighest (ev.setWidth 8) ∧
    (clearHighest (ev.setWidth 8) = 0#8 ↔ (clearHighest (ev.setWidth 8)).setWidth 6 = 0#6) := by decide

theorem restOfSample_sampleWord (ev : BitVec 6) (idx : BitVec 4) (ch : Byte) :
    restOfSample (sampleWord ev idx ch) = sampleRequests (laterEvents ev) idx ch := by
  obtain ⟨hbyte, hzero⟩ := clearHighest_sample ev
  have halone : ((ev.setWidth 8).getLsbD 5 || (ev.setWidth 8).getLsbD 4) = (ev.getLsbD 5 || ev.getLsbD 4) := by
    simp
  simp only [sampleWord, restOfSample, halone, laterEvents, sampleRequests]
  by_cases hfirst : (ev.getLsbD 5 || ev.getLsbD 4) = true
  · simp only [hfirst, Bool.true_or, if_true]
  · simp only [hfirst, Bool.false_or, beq_iff_eq, hzero, hbyte, if_false, Bool.false_eq_true]

theorem sampleOps_zero (idx : BitVec 4) (ch : Byte) : sampleOps 0#6 idx ch = [] := rfl

/-- RESET and STOP are performed alone. -/
theorem laterEvents_of_reset_or_stop : ∀ ev : BitVec 6, (ev.getLsbD 5 || ev.getLsbD 4) = true → laterEvents ev = 0#6 := by
  decide

/-- Without RESET and STOP, an event comes later where an event before it is selected too. -/
theorem getLsbD_laterEvents : ∀ ev : BitVec 6, ev.getLsbD 5 = false → ev.getLsbD 4 = false →
    (laterEvents ev).getLsbD 5 = false ∧ (laterEvents ev).getLsbD 4 = false ∧ (laterEvents ev).getLsbD 3 = false ∧
    (laterEvents ev).getLsbD 2 = (ev.getLsbD 3 && ev.getLsbD 2) ∧
    (laterEvents ev).getLsbD 1 = ((ev.getLsbD 3 || ev.getLsbD 2) && ev.getLsbD 1) ∧
    (laterEvents ev).getLsbD 0 = ((ev.getLsbD 3 || ev.getLsbD 2 || ev.getLsbD 1) && ev.getLsbD 0) := by decide

theorem laterEvents_of_wrch : ∀ ev : BitVec 6, ev.getLsbD 5 = false → ev.getLsbD 4 = false → ev.getLsbD 3 = false →
    ev.getLsbD 2 = false → ev.getLsbD 1 = false → laterEvents ev = 0#6 := by decide

theorem exists_event : ∀ ev : BitVec 6, ev ≠ 0#6 → ev.getLsbD 5 = false → ev.getLsbD 4 = false → ev.getLsbD 3 = false →
    ev.getLsbD 2 = false → ev.getLsbD 1 = false → ev.getLsbD 0 = true := by decide

theorem decode_sampleWord (cfg : Config) (ev : BitVec 6) (idx : BitVec 4) (ch : Byte) : decode cfg (sampleWord ev idx ch) =
    if ev.getLsbD 5 then .instr .reset
    else if ev.getLsbD 4 then .instr .stop
    else if ev.getLsbD 3 then .instr .start
    else if ev.getLsbD 2 then .instr .txdone
    else if ev.getLsbD 1 then .instr .tick
    else if ev.getLsbD 0 then .instr (.wrch idx ch)
    else .rejected .noEvent := by
  have hunused : ∀ ev : BitVec 6, (ev.setWidth 8).extractLsb' 6 2 = 0#2 := by decide
  obtain ⟨hreserved, hindex⟩ := index_byte idx
  simp [decode, sampleWord, threeBytes, decodeSample, hreserved, hindex, hunused]

theorem sampleOps_of_events {ev : BitVec 6} (h5 : ev.getLsbD 5 = false) (h4 : ev.getLsbD 4 = false) (idx : BitVec 4) (ch : Byte) :
    sampleOps ev idx ch =
      (if ev.getLsbD 3 then [.start] else []) ++ (if ev.getLsbD 2 then [.txdone] else []) ++
        (if ev.getLsbD 1 then [.tick] else []) ++ (if ev.getLsbD 0 then [.wrch idx ch] else []) := by
  rw [sampleOps, h5, h4]
  rfl

theorem sampleOps_laterEvents {ev : BitVec 6} (h5 : ev.getLsbD 5 = false) (h4 : ev.getLsbD 4 = false) (idx : BitVec 4) (ch : Byte) :
    sampleOps (laterEvents ev) idx ch =
      (if ev.getLsbD 3 && ev.getLsbD 2 then [.txdone] else []) ++
        (if (ev.getLsbD 3 || ev.getLsbD 2) && ev.getLsbD 1 then [.tick] else []) ++
        (if (ev.getLsbD 3 || ev.getLsbD 2 || ev.getLsbD 1) && ev.getLsbD 0 then [.wrch idx ch] else []) := by
  obtain ⟨l5, l4, l3, l2, l1, l0⟩ := getLsbD_laterEvents ev h5 h4
  rw [sampleOps_of_events l5 l4, l3, l2, l1, l0]
  rfl

/-- What a sample decodes to is the first of `sampleOps`; it is an input event, and a WRCH is the last one. -/
def FirstOfSample (cfg : Config) (ev : BitVec 6) (idx : BitVec 4) (ch : Byte) (i : Instr) : Prop :=
  decode cfg (sampleWord ev idx ch) = .instr i ∧ isEvent i = true ∧
    sampleOps ev idx ch = i :: sampleOps (laterEvents ev) idx ch ∧
    (isProducerWrite i = true → i = .wrch idx ch ∧ laterEvents ev = 0#6)

theorem exists_firstOfSample (cfg : Config) {ev : BitVec 6} (hev : ev ≠ 0#6) (idx : BitVec 4) (ch : Byte) :
    ∃ i, FirstOfSample cfg ev idx ch i := by
  have hdecode := decode_sampleWord cfg ev idx ch
  by_cases h5 : ev.getLsbD 5 = true
  · have hlater := laterEvents_of_reset_or_stop ev (by rw [h5]; rfl)
    exact ⟨.reset, by rw [hdecode, if_pos h5], rfl, by rw [hlater, sampleOps_zero, sampleOps, if_pos h5], nofun⟩
  by_cases h4 : ev.getLsbD 4 = true
  · have hlater := laterEvents_of_reset_or_stop ev (by rw [h4, Bool.or_true])
    exact ⟨.stop, by rw [hdecode, if_neg h5, if_pos h4], rfl,
      by rw [hlater, sampleOps_zero, sampleOps, if_neg h5, if_pos h4], nofun⟩
  rw [Bool.not_eq_true] at h5 h4
  have hops := sampleOps_of_events h5 h4 idx ch
  have hlater := sampleOps_laterEvents h5 h4 idx ch
  simp only [h5, h4, Bool.false_eq_true, if_false] at hdecode
  by_cases h3 : ev.getLsbD 3 = true
  · simp only [h3, Bool.true_and, Bool.true_or, if_true] at hdecode hops hlater
    exact ⟨.start, hdecode, rfl, by rw [hops, hlater]; rfl, nofun⟩
  rw [Bool.not_eq_true] at h3
  simp only [h3, Bool.false_and, Bool.false_or, Bool.false_eq_true, if_false] at hdecode hops hlater
  by_cases h2 : ev.getLsbD 2 = true
  · simp only [h2, Bool.true_and, Bool.true_or, if_true] at hdecode hops hlater
    exact ⟨.txdone, hdecode, rfl, by rw [hops, hlater]; rfl, nofun⟩
  rw [Bool.not_eq_true] at h2
  simp only [h2, Bool.false_and, Bool.false_or, Bool.false_eq_true, if_false] at hdecode hops hlater
  by_cases h1 : ev.getLsbD 1 = true
  · simp only [h1, Bool.true_and, if_true] at hdecode hops hlater
    exact ⟨.tick, hdecode, rfl, by rw [hops, hlater]; rfl, nofun⟩
  rw [Bool.not_eq_true] at h1
  simp only [h1, exists_event ev hev h5 h4 h3 h2 h1, Bool.false_and, Bool.false_eq_true, if_true, if_false] at hdecode hops hlater
  exact ⟨.wrch idx ch, hdecode, rfl, by rw [hops, hlater]; rfl, fun _ => ⟨rfl, laterEvents_of_wrch ev h5 h4 h3 h2 h1⟩⟩

/-! ### A sample performs its events in their order (R145) -/

theorem withPending_nil (ws : List CellWrite) : withPending ws [] = [] := rfl

theorem withPending_cons_of_wrch (ws : List CellWrite) (a : BitVec 4) (v : Byte) (ops : List Instr) :
    withPending ws (.wrch a v :: ops) = writeOps ws ++ .wrch a v :: withPending ws ops := by
  simp [withPending, isProducerWrite, writeOps]

theorem withPending_cons_of_other (ws : List CellWrite) {i : Instr} (hi : isProducerWrite i = false) (ops : List Instr) :
    withPending ws (i :: ops) = i :: withPending ws ops := by
  simp [withPending, hi]

/-- The steps that a sample takes at the head of `inputs` perform its operations one after another: each but a WRCH in one step,
which leaves the later events of the sample at the head, and the WRCH after the pending writes. -/
theorem runSteps_sample (ops : List Instr) (rest : List Request) (idx : BitVec 4) (ch : Byte) {s : State} {ev : BitVec 6}
    (hops : sampleOps ev idx ch = ops) (hinputs : s.inputs = sampleRequests ev idx ch ++ rest) :
    runSteps (withPending s.producer ops).length s =
      runOps (withPending s.producer ops) (withQueues s rest (if .wrch idx ch ∈ ops then [] else s.producer)) := by
  induction ops generalizing s ev with
  | nil =>
    have hev : ev = 0#6 := by
      by_contra hev
      obtain ⟨i, -, -, hcons, -⟩ := exists_firstOfSample s.config hev idx ch
      rw [hops] at hcons
      cases hcons
    subst hev
    have hself : withQueues s rest s.producer = s := by
      rw [← show s.inputs = rest from hinputs]
      rfl
    rw [withPending_nil, if_neg (List.not_mem_nil), hself]
    rfl
  | cons i is ih =>
    have hev : ev ≠ 0#6 := by
      rintro rfl
      cases hops
    obtain ⟨j, hdecode, hevent, hcons, hlast⟩ := exists_firstOfSample s.config hev idx ch
    obtain ⟨rfl, hlater⟩ := List.cons.inj (hops.symm.trans hcons)
    rw [sampleRequests, if_neg hev, List.singleton_append] at hinputs
    have hrest := restOfSample_sampleWord ev idx ch
    cases hwrite : isProducerWrite i with
    | true =>
      obtain ⟨rfl, hnone⟩ := hlast hwrite
      rw [hnone] at hlater hrest
      rw [hlater, sampleOps_zero, withPending_cons_of_wrch, withPending_nil, if_pos List.mem_cons_self,
        ← runSteps_waiting_wrch hinputs hdecode hrest]
      simp [writeOps]
    | false =>
      obtain ⟨t, ht⟩ := exec_event_withQueues hevent s
      have hstep : step s = .next (withQueues t (sampleRequests (laterEvents ev) idx ch ++ rest) s.producer) := by
        rw [step_of_not_waiting hinputs hdecode (by rw [waitsForProducer, hwrite]; rfl), hrest]
        exact ht _ _
      have hother : .wrch idx ch ≠ i := by
        rintro rfl
        cases hwrite
      have hmem : .wrch idx ch ∈ i :: is ↔ .wrch idx ch ∈ is := by simp [hother]
      rw [withPending_cons_of_other s.producer hwrite, List.length_cons, runSteps_succ hstep, runOps_cons (ht _ _)]
      simp only [hmem]
      exact ih (s := withQueues t _ s.producer) hlater.symm rfl

theorem map_filter_cons {α β : Type} (p : α → Bool) (f : α → β) (a : α) (l : List α) :
    ((a :: l).filter p).map f = (if p a then [f a] else []) ++ (l.filter p).map f := by
  cases h : p a <;> simp [h]

/-- Settles O5: the run is `runSteps_sample`, and the three cases of R145 are those of `sampleOps`. -/
theorem samplePerformsItsEventsInOrder : Obligations.SamplePerformsItsEventsInOrder := by
  unfold Obligations.SamplePerformsItsEventsInOrder
  intro s rest ev idx ch hev hinputs
  refine ⟨?run, fun h5 => if_pos h5, fun h5 h4 => ?stop, fun h5 h4 => ?events⟩
  case run =>
    have hrequests : sampleRequests ev idx ch = [.word (sampleWord ev idx ch)] := if_neg hev
    exact runSteps_sample _ rest idx ch rfl (by rw [hrequests]; exact hinputs)
  case stop => rw [sampleOps, h5, h4]; rfl
  case events =>
    rw [sampleOps_of_events h5 h4]
    simp only [map_filter_cons, List.filter_nil, List.map_nil, List.append_nil, List.append_assoc]

end Sys2Proof.Proofs
end
